-- ==== Sys2Proof/Word.lean ====
section
/-! DEFINITION. The three widths of the codec: bytes (00_scope.md R8, R9), 16-bit lengths, indices and counts (R8), and
32-bit command and result words (30_encoding.md R87). Every value is unsigned (R9). -/

namespace Sys2Proof

/-- A byte, 0x00 to 0xFF: wire bytes, payload bytes, frame types, checksums (R8, R9). -/
abbrev Byte := BitVec 8

/-- A 16-bit value: a frame length, a payload index or a count (R8). -/
abbrev Half := BitVec 16

/-- A 32-bit word: a command word, a result or a status word (R87, R92). -/
abbrev Word := BitVec 32

end Sys2Proof
end

