-- ==== Sys2Proof/Syntax.lean ====
section
/-! DEFINITION. The instructions: one constructor for each row of spec/opcode_table.json. The 19 CMD1 commands
(30_encoding.md R89) carry the operand fields they use; the 7 WIRE symbols (R81, R85, R86) carry the raw data byte where
the row leaves it open. -/

namespace Sys2Proof

/-- One row of the opcode table each. `a` is field A and `b` is field B of the command word (R87); a field that R89 marks
"no" is no part of the instruction (R91). -/
inductive Instr where
  /-- TX_SET_TYPE (R111): B is the frame type. -/
  | txSetType (b : Byte)
  /-- TX_SET_LEN (R112): A is the frame length. -/
  | txSetLen (a : Half)
  /-- TX_WRITE (R113): A is the index, B the value. -/
  | txWrite (a : Half) (b : Byte)
  /-- TX_CSUM (R114). -/
  | txCsum
  /-- ENCODE (R150). -/
  | encode
  /-- FLUSH (R155). -/
  | flush
  /-- DECODE (R170). -/
  | decode
  /-- RD_STATUS (R125). -/
  | rdStatus
  /-- RD_TXSTAT (R126). -/
  | rdTxstat
  /-- TX_RD_TYPE (R115). -/
  | txRdType
  /-- TX_RD_LEN (R116). -/
  | txRdLen
  /-- TX_RD_BYTE (R117): A is the index. -/
  | txRdByte (a : Half)
  /-- TX_RD_CSUM (R118). -/
  | txRdCsum
  /-- TX_VERIFY (R119): B is the received checksum. -/
  | txVerify (b : Byte)
  /-- RX_RD_TYPE (R120). -/
  | rxRdType
  /-- RX_RD_LEN (R121). -/
  | rxRdLen
  /-- RX_RD_BYTE (R122): A is the index. -/
  | rxRdByte (a : Half)
  /-- RX_RD_CSUM (R123). -/
  | rxRdCsum
  /-- RX_VERIFY (R124): B is the received checksum. -/
  | rxVerify (b : Byte)
  /-- WIRE_START (R81): the raw byte 7E. -/
  | wireStart
  /-- WIRE_ESC_7E (R85): the raw pair 7D 5E. -/
  | wireEsc7E
  /-- WIRE_ESC_7D (R85): the raw pair 7D 5D. -/
  | wireEsc7D
  /-- WIRE_ESC_11 (R85): the raw pair 7D 31. -/
  | wireEsc11
  /-- WIRE_ESC_13 (R85): the raw pair 7D 33. -/
  | wireEsc13
  /-- WIRE_ESC_OTHER (R176): the raw pair 7D x, for an x that is none of 7E, 5E, 5D, 31, 33. -/
  | wireEscOther (x : Byte)
  /-- WIRE_DATA (R86): one raw byte that is neither 7E nor 7D. -/
  | wireData (b : Byte)
deriving DecidableEq, Repr

namespace Instr

/-- A CMD1 command, as against a WIRE symbol (the table's "format"). -/
def isCommand : Instr → Bool
  | .wireStart | .wireEsc7E | .wireEsc7D | .wireEsc11 | .wireEsc13 | .wireEscOther _ | .wireData _ => false
  | .txSetType _ | .txSetLen _ | .txWrite _ _ | .txCsum | .encode | .flush | .decode | .rdStatus | .rdTxstat
  | .txRdType | .txRdLen | .txRdByte _ | .txRdCsum | .txVerify _
  | .rxRdType | .rxRdLen | .rxRdByte _ | .rxRdCsum | .rxVerify _ => true

end Instr

end Sys2Proof
end

