-- ==== Sys2Proof/WellFormed.lean ====
section
/-! DEFINITION. Which instruction terms stand for a row of the opcode table. Every operand value of a command is legal as
an encoding (30_encoding.md R84, R88); the two WIRE rows with an open byte exclude the bytes of the rows above them. -/

namespace Sys2Proof

/-- WIRE_ESC_OTHER excludes a raw 7E second byte (42_decoder.md R172: UnexpectedStart) and the four pairs of R85;
WIRE_DATA excludes 7E and 7D (R86). What exec does on an ill-formed term is log entry 24. -/
def Instr.wf : Instr → Bool
  | .wireEscOther x => x != 0x7E && x != 0x5E && x != 0x5D && x != 0x31 && x != 0x33
  | .wireData b => b != 0x7E && b != 0x7D
  | .wireStart | .wireEsc7E | .wireEsc7D | .wireEsc11 | .wireEsc13 => true
  | .txSetType _ | .txSetLen _ | .txWrite _ _ | .txCsum | .encode | .flush | .decode | .rdStatus | .rdTxstat
  | .txRdType | .txRdLen | .txRdByte _ | .txRdCsum | .txVerify _
  | .rxRdType | .rxRdLen | .rxRdByte _ | .rxRdCsum | .rxVerify _ => true

end Sys2Proof
end

