-- ==== Sys2Proof/Decode.lean ====
section
/-! DEFINITION. Both encodings of 30_encoding.md: the CMD1 command word (R87 to R91) and the WIRE symbols (R81, R85, R86).
Decoding is total and rejects by name; the encoder after it is written from the same tables. -/

namespace Sys2Proof

/-- Why an encoding is no instruction. None of these stops the machine: the block answers BAD_OPCODE (R90), ends DECODE
(R170) or takes in an escape byte alone (R175). -/
inductive Reject where
  /-- The opcode is not in R89's table (R90). -/
  | unassignedOpcode
  /-- There is no byte to read. -/
  | noByte
  /-- An escape byte 7D whose data byte is not there: the sequence ends, or a raw START follows (R86, R172). -/
  | escapeWithoutData
  /-- Bytes are left after a whole symbol. -/
  | trailingBytes
deriving DecidableEq, Repr

/-- What a decoder answers. -/
inductive Decoded (α : Type) where
  | instr (x : α)
  | reject (why : Reject)
deriving DecidableEq, Repr

/-- The instruction, or none where the decoder rejects. -/
def Decoded.toOption {α : Type} : Decoded α → Option α
  | .instr x => some x
  | .reject _ => none

/-! ## CMD1 -/

/-- OP, bits [31:24] of a command word (R87). -/
def opField (w : Word) : Byte := w.extractLsb' 24 8

/-- A, bits [23:8] of a command word (R87). -/
def aField (w : Word) : Half := w.extractLsb' 8 16

/-- B, bits [7:0] of a command word (R87). -/
def bField (w : Word) : Byte := w.extractLsb' 0 8

/-- The word {OP, A, B} (R87). -/
def cmdWord (op : Byte) (a : Half) (b : Byte) : Word := op ++ a ++ b

/-- One row of R89's opcode map: the opcode, and the instruction its operand fields make. A row that does not use a field
ignores it (R91). -/
structure CmdRow where
  op : Byte
  build : Half → Byte → Instr

/-- The opcode map of R89, row by row. -/
def cmdTable : List CmdRow :=
  [ ⟨0x01, fun _ b => .txSetType b⟩,
    ⟨0x02, fun a _ => .txSetLen a⟩,
    ⟨0x03, fun a b => .txWrite a b⟩,
    ⟨0x04, fun _ _ => .txCsum⟩,
    ⟨0x05, fun _ _ => .encode⟩,
    ⟨0x06, fun _ _ => .flush⟩,
    ⟨0x10, fun _ _ => .decode⟩,
    ⟨0x11, fun _ _ => .rdStatus⟩,
    ⟨0x12, fun _ _ => .rdTxstat⟩,
    ⟨0x20, fun _ _ => .txRdType⟩,
    ⟨0x21, fun _ _ => .txRdLen⟩,
    ⟨0x22, fun a _ => .txRdByte a⟩,
    ⟨0x23, fun _ _ => .txRdCsum⟩,
    ⟨0x24, fun _ b => .txVerify b⟩,
    ⟨0x30, fun _ _ => .rxRdType⟩,
    ⟨0x31, fun _ _ => .rxRdLen⟩,
    ⟨0x32, fun a _ => .rxRdByte a⟩,
    ⟨0x33, fun _ _ => .rxRdCsum⟩,
    ⟨0x34, fun _ b => .rxVerify b⟩ ]

/-- Decode a command word: only OP selects the row (R89); an opcode outside the table is unassigned (R90). -/
def decodeCmd (w : Word) : Decoded Instr :=
  match cmdTable.find? (fun row => row.op == opField w) with
  | some row => .instr (row.build (aField w) (bField w))
  | none => .reject .unassignedOpcode

/-! ## WIRE -/

/-- The start delimiter (R81). -/
def startByte : Byte := 0x7E

/-- The escape byte (R85). -/
def escByte : Byte := 0x7D

/-- The two-byte symbol whose data byte is x (R85, R176; x is not a raw 7E). -/
def escSymbol (x : Byte) : Instr :=
  if x = 0x5E then .wireEsc7E
  else if x = 0x5D then .wireEsc7D
  else if x = 0x31 then .wireEsc11
  else if x = 0x33 then .wireEsc13
  else .wireEscOther x

/-- The symbol that ends with the data byte x, an escape being pending: a raw 7E is START all the same (R86, R172). -/
def afterEscape (x : Byte) (rest : List Byte) : Decoded (Instr × List Byte) :=
  if x = startByte then .instr (.wireStart, rest) else .instr (escSymbol x, rest)

/-- Read one wire symbol from raw bytes, and answer what is left (R86). `pending` says that an escape byte was taken in
already (DEC_ESC, 10_state.md R35). An escape byte with no data byte after it is no symbol yet. -/
def decodeWire (pending : Bool) : List Byte → Decoded (Instr × List Byte)
  | [] => .reject .noByte
  | r :: rest =>
    if pending then afterEscape r rest
    else if r = startByte then .instr (.wireStart, rest)
    else if r = escByte then
      match rest with
      | [] => .reject .escapeWithoutData
      | x :: rest' => if x = startByte then .reject .escapeWithoutData else .instr (escSymbol x, rest')
    else .instr (.wireData r, rest)

/-! ## Both, and the encoder -/

/-- An encoded instruction: a command word on the command port, or the raw bytes of a wire symbol. -/
inductive Encoding where
  | cmd1 (w : Word)
  | wire (bytes : List Byte)
deriving DecidableEq, Repr

/-- Decode a whole encoding; a wire symbol has to use all of its bytes. -/
def decode : Encoding → Decoded Instr
  | .cmd1 w => decodeCmd w
  | .wire bytes =>
    match decodeWire false bytes with
    | .instr (i, []) => .instr i
    | .instr (_, _ :: _) => .reject .trailingBytes
    | .reject why => .reject why

/-- Encode an instruction: R89 for commands, unused fields zero (R91, R95); R81, R85, R176 and R86 for wire symbols. -/
def encode : Instr → Encoding
  | .txSetType b => .cmd1 (cmdWord 0x01 0 b)
  | .txSetLen a => .cmd1 (cmdWord 0x02 a 0)
  | .txWrite a b => .cmd1 (cmdWord 0x03 a b)
  | .txCsum => .cmd1 (cmdWord 0x04 0 0)
  | .encode => .cmd1 (cmdWord 0x05 0 0)
  | .flush => .cmd1 (cmdWord 0x06 0 0)
  | .decode => .cmd1 (cmdWord 0x10 0 0)
  | .rdStatus => .cmd1 (cmdWord 0x11 0 0)
  | .rdTxstat => .cmd1 (cmdWord 0x12 0 0)
  | .txRdType => .cmd1 (cmdWord 0x20 0 0)
  | .txRdLen => .cmd1 (cmdWord 0x21 0 0)
  | .txRdByte a => .cmd1 (cmdWord 0x22 a 0)
  | .txRdCsum => .cmd1 (cmdWord 0x23 0 0)
  | .txVerify b => .cmd1 (cmdWord 0x24 0 b)
  | .rxRdType => .cmd1 (cmdWord 0x30 0 0)
  | .rxRdLen => .cmd1 (cmdWord 0x31 0 0)
  | .rxRdByte a => .cmd1 (cmdWord 0x32 a 0)
  | .rxRdCsum => .cmd1 (cmdWord 0x33 0 0)
  | .rxVerify b => .cmd1 (cmdWord 0x34 0 b)
  | .wireStart => .wire [0x7E]
  | .wireEsc7E => .wire [0x7D, 0x5E]
  | .wireEsc7D => .wire [0x7D, 0x5D]
  | .wireEsc11 => .wire [0x7D, 0x31]
  | .wireEsc13 => .wire [0x7D, 0x33]
  | .wireEscOther x => .wire [0x7D, x]
  | .wireData b => .wire [b]

/-- The bits of an opcode table row as an encoding: a row of at most 8 bits is one raw byte, a row of 16 bits is an escape
pair with the prefix in bits 15:8 and first on the wire (log entry 17), and a wider row is a command word. -/
def tableEncoding (nbits w : Nat) : Encoding :=
  if nbits ≤ 8 then .wire [BitVec.ofNat 8 w]
  else if nbits ≤ 16 then .wire [BitVec.ofNat 8 (w / 256), BitVec.ofNat 8 w]
  else .cmd1 (BitVec.ofNat 32 w)

/-- What the decoder reads from the bits of an opcode table row (none where it rejects them). -/
def decodeTableWord (nbits w : Nat) : Option Instr :=
  (decode (tableEncoding nbits w)).toOption

end Sys2Proof
end

