-- ==== Sys2Proof/Config.lean ====
section
/-! DEFINITION. The named parameters of the block and of its sink (00_scope.md R5, R6, R7) and the free values of the
spec (93_implementation_defined.md U2, U3; the agents' moves, 10_state.md R20). The spec gives none of them a value, and
neither does the model. -/

namespace Sys2Proof

/-- One move of an agent, or the reset input (10_state.md R20, 70_reset_and_hazards.md R240; log entry 1). -/
inductive Machine.Event where
  /-- The host issues a command word (30_encoding.md R94). -/
  | command (w : Word)
  /-- The source environment appends a byte to SRC (20_memory.md R58). -/
  | arrive (b : Byte)
  /-- The sink environment takes the head of SNK and delivers it (R62). -/
  | drain
  /-- Reset is asserted (R240, R241). -/
  | reset
  /-- The block takes a step. -/
  | turn
deriving DecidableEq, Repr, Inhabited

/-- The open parameters (R5 to R7), each capacity held as its predecessor, so that 1 ≤ capacity ≤ 65534 holds by type.
A State carries one Config and no step changes it (log entry 3). -/
structure Config where
  /-- RX_CAP less one (R5). -/
  rxCapPred : Fin 65534
  /-- TX_CAP less one (R6). -/
  txCapPred : Fin 65534
  /-- SINK_FLUSH_DELIVERS (R7). -/
  sinkFlushDelivers : Bool
deriving DecidableEq, Repr

namespace Config

/-- RX_CAP, the capacity of the receive payload buffer in bytes (R5). -/
def rxCap (c : Config) : Nat := c.rxCapPred.val + 1

/-- TX_CAP, the capacity of the transmit payload buffer in bytes (R6). -/
def txCap (c : Config) : Nat := c.txCapPred.val + 1

/-- RX_CAP less one of the block as built: open (D11, log entry 3). -/
opaque asBuiltRxCapPred : Fin 65534

/-- TX_CAP less one of the block as built: open (D12, log entry 3). -/
opaque asBuiltTxCapPred : Fin 65534

/-- SINK_FLUSH_DELIVERS of the sink as built: open (D10, log entry 3). -/
opaque asBuiltSinkFlushDelivers : Bool

/-- The parameters of the machine that `State.reset` describes: all three open (log entry 3). -/
def asBuilt : Config :=
  { rxCapPred := asBuiltRxCapPred
    txCapPred := asBuiltTxCapPred
    sinkFlushDelivers := asBuiltSinkFlushDelivers }

/-- The reset draw of a TXB byte (R24, U2): a free value for each reset and each index (log entry 4). -/
opaque txbDraw : Nat → Nat → Byte

/-- The value of an RXB byte nothing has stored since reset (R29, U3): free, and not observable (log entry 5). -/
opaque rxbDraw : Nat → Nat → Byte

/-- The n-th move of an endless schedule of which nothing is known (R20, 20_memory.md R58, R65; log entry 25). -/
opaque freeMove : Nat → Machine.Event

end Config

end Sys2Proof
end

