-- ==== Sys2Proof/Machine/State.lean ====
section
/-! DEFINITION. The machine's state: the registers and buffers of 10_state.md, the command port (30_encoding.md section
3), the byte source and sink (20_memory.md section 4), the parameters, and what the agents do next (10_state.md R20). -/

namespace Sys2Proof.Machine

/-- DEC_ST, the decoder state (10_state.md R34); the codes are in Flags.lean. -/
inductive DecSt where
  | awaitStart
  | lenMsb
  | lenLsb
  | frameType
  /-- PAYLOAD, the checksum position included: there DEC_CNT = plen(RX_LEN) (R34). -/
  | payload
deriving DecidableEq, Repr

/-- RX_STAT, the frame status (R31). -/
inductive RxStat where
  | pending
  | ready
  | errored
deriving DecidableEq, Repr

/-- RX_ERR, the ErrorKind (R32). -/
inductive RxErr where
  | noError
  | checksumFailure
  | bufferCapacityExceeded
  | unexpectedStart
deriving DecidableEq, Repr

/-- RC, the response code (30_encoding.md R93). -/
inductive RespCode where
  | ok
  | badOpcode
  | badIndex
  | badLength
deriving DecidableEq, Repr

/-- A response: RC and the 32-bit result VAL (R92). -/
structure Response where
  rc : RespCode
  val : Word
deriving DecidableEq, Repr

/-- What the command port is doing (R94; log entry 18). -/
inductive Port where
  /-- No command was issued yet. -/
  | idle
  /-- The host issued this command word; the block has not begun it. -/
  | issued (w : Word)
  /-- DECODE is in its loop (42_decoder.md R170). -/
  | decoding
  /-- ENCODE has these bytes of its `total` still to write to the sink (41_encoder.md R150; log entry 14). -/
  | encoding (todo : List Byte) (total : Nat)
  /-- The block returned this response to the last command. -/
  | responded (r : Response)
deriving DecidableEq, Repr

/-- The moves after those of `sched`, without end, so that the environments can act forever (20_memory.md R58,
70_reset_and_hazards.md R253; log entry 25). -/
inductive Later where
  /-- These moves, over and over. An empty cycle gives the block every turn (log entry 11). -/
  | cycle (events : List Event)
  /-- The free moves `Config.freeMove n`, `Config.freeMove (n + 1)` and so on. -/
  | free (n : Nat)
deriving DecidableEq, Repr

/-- A payload buffer's bytes written since reset, as (index, byte) pairs with strictly rising indices. An index that is
not listed was not written since reset and reads as its free value (log entries 4, 5 and 6). -/
abbrev Memory := List Host.Cell

/-- Why the machine stops. -/
inductive Fault where
  /-- The host issued a command before the response to the previous one. Raised by the host's step, never by a meaning.
  The spec gives such a command no step (R252, U10: stuck). Safe: the machine stops where no behaviour is given (log
  entry 7). -/
  | commandBeforeResponse
deriving DecidableEq, Repr

/-- Why an instruction has no meaning in the model. -/
inductive Refusal where
  /-- Raised by an arm of exec that has no meaning yet; no arm raises it now. Safe. -/
  | notModelled (mnemonic : String)
deriving DecidableEq, Repr

/-- The state. Register names are those of 10_state.md. -/
structure State where
  /-- RX_CAP, TX_CAP and SINK_FLUSH_DELIVERS (R5 to R7); no step changes them (log entry 3). -/
  cfg : Config
  /-- The resets so far, which select the free values of unlisted bytes (R24; log entry 4). -/
  draws : Nat
  /-- TX_TYPE (R22). -/
  txType : Byte
  /-- TX_LEN (R23). -/
  txLen : Half
  /-- TXB (R24). -/
  txb : Memory
  /-- TX_CSUM (R25). -/
  txCsum : Byte
  /-- TX_CSV (R26). -/
  txCsv : Bool
  /-- RX_TYPE (R27). -/
  rxType : Byte
  /-- RX_LEN (R28). -/
  rxLen : Half
  /-- RXB (R29). -/
  rxb : Memory
  /-- RX_CSUM (R30). -/
  rxCsum : Byte
  /-- RX_STAT (R31). -/
  rxStat : RxStat
  /-- RX_ERR (R32). -/
  rxErr : RxErr
  /-- DEC_ST (R34). -/
  decSt : DecSt
  /-- DEC_ESC (R35). -/
  decEsc : Bool
  /-- DEC_ACC (R36). -/
  decAcc : Byte
  /-- DEC_CNT (R37). -/
  decCnt : Half
  /-- The command port (R94). -/
  port : Port
  /-- Reset was asserted while a command executes (R241; log entry 8). -/
  resetPending : Bool
  /-- SRC, oldest byte first (20_memory.md R58). -/
  src : List Byte
  /-- SNK, oldest byte first (R62). -/
  snk : List Byte
  /-- The bytes the sink has delivered to the link, oldest first (R62, R63). -/
  link : List Byte
  /-- The calls of flush() so far (R63, R155). -/
  flushCalls : Nat
  /-- What the agents do next, in order (R20; log entry 1). -/
  sched : List Event
  /-- What they do after that (R20; log entry 25). -/
  later : Later
deriving DecidableEq, Repr

/-- The state right after the power-up reset (70_reset_and_hazards.md R240, R241). Every register has the value R240
gives it; the port, the queues and the model's own fields are as log entries 3, 4, 8, 18, 19 and 25 say. -/
def State.reset : State :=
  { cfg := Config.asBuilt
    draws := 0
    txType := 0x00
    txLen := 0x0000
    txb := []
    txCsum := 0x00
    txCsv := false
    rxType := 0x00
    rxLen := 0x0000
    rxb := []
    rxCsum := 0x00
    rxStat := .pending
    rxErr := .noError
    decSt := .awaitStart
    decEsc := false
    decAcc := 0x00
    decCnt := 0x0000
    port := .idle
    resetPending := false
    src := []
    snk := []
    link := []
    flushCalls := 0
    sched := []
    later := .cycle [] }

end Sys2Proof.Machine
end

