-- ==== Sys2Proof/Machine/Flags.lean ====
section
/-! DEFINITION. The codes of the named fields, the two status words (10_state.md R38, R39), the response codes
(30_encoding.md R93) and the checksum arithmetic (00_scope.md R12, R13). -/

namespace Sys2Proof.Machine

/-- DEC_ST codes (10_state.md R34); 5 to 7 are never produced. -/
def DecSt.code : DecSt → BitVec 3
  | .awaitStart => 0
  | .lenMsb => 1
  | .lenLsb => 2
  | .frameType => 3
  | .payload => 4

/-- RX_STAT codes (R31); 3 is never produced. -/
def RxStat.code : RxStat → BitVec 2
  | .pending => 0
  | .ready => 1
  | .errored => 2

/-- RX_ERR codes (R32). -/
def RxErr.code : RxErr → BitVec 2
  | .noError => 0
  | .checksumFailure => 1
  | .bufferCapacityExceeded => 2
  | .unexpectedStart => 3

/-- RC codes, 4 bits (30_encoding.md R92, R93); 4 to 15 are never produced. -/
def RespCode.code : RespCode → BitVec 4
  | .ok => 0
  | .badOpcode => 1
  | .badIndex => 2
  | .badLength => 3

/-- STATUS = {DEC_CNT, DEC_ACC, DEC_ESC, DEC_ST, RX_ERR, RX_STAT} (10_state.md R38). -/
def State.status (s : State) : Word :=
  s.decCnt ++ s.decAcc ++ BitVec.ofBool s.decEsc ++ s.decSt.code ++ s.rxErr.code ++ s.rxStat.code

/-- The source's isReady() on a STATUS word: RXS == 1 (R38). -/
def statusIsReady (v : Word) : Bool := v.extractLsb' 0 2 == 1

/-- hasError(): RXS == 2 (R38). -/
def statusHasError (v : Word) : Bool := v.extractLsb' 0 2 == 2

/-- errorKind(): ERR (R38). -/
def statusErrorKind (v : Word) : BitVec 2 := v.extractLsb' 2 2

/-- TXSTAT: bit 0 is TX_CSV, bits [31:1] read as 0 (R39). -/
def State.txstat (s : State) : Word := (BitVec.ofBool s.txCsv).setWidth 32

/-- The payload length a frame length announces, 0 for 0 (00_scope.md R12; C2). -/
def plen (n : Half) : Half := if n = 0 then 0 else n - 1

/-- The 8-bit sum of a type and bytes, modulo 256 (R12). -/
def sum8 (t : Byte) (bytes : List Byte) : Byte := bytes.foldl (fun acc b => acc + b) t

/-- The checksum 0xFF - sum8 (R12). -/
def chk (t : Byte) (bytes : List Byte) : Byte := 0xFF - sum8 t bytes

/-- A frame is well-formed when its stored checksum is the computed one (R13). -/
def wellFormedFrame (t : Byte) (bytes : List Byte) (c : Byte) : Bool := c == chk t bytes

end Sys2Proof.Machine
end

