-- ==== Sys2Proof/Machine/Memory.lean ====
section
/-! DEFINITION. The operations on a payload buffer's written bytes (20_memory.md R50, R54: one byte an access). The form is
canonical: indices strictly rise, and what is not listed was not written since reset (log entry 6). -/

namespace Sys2Proof.Machine

/-- The byte written last at index i, or none where nothing was written since reset. -/
def Memory.read : Memory → Nat → Option Byte
  | [], _ => none
  | (j, c) :: m, i => if i = j then some c else Memory.read m i

/-- Write one byte at index i, keeping the indices rising. -/
def Memory.write : Memory → Nat → Byte → Memory
  | [], i, b => [(i, b)]
  | (j, c) :: m, i, b =>
    if i < j then (i, b) :: (j, c) :: m
    else if i = j then (i, b) :: m
    else (j, c) :: Memory.write m i b

/-- The canonical form: strictly rising indices. -/
abbrev Memory.wf (m : Memory) : Prop := m.Pairwise (fun c d => c.1 < d.1)

/-- Every listed index lies below the capacity (10_state.md R24, R29). -/
abbrev Memory.below (m : Memory) (cap : Nat) : Prop := ∀ c ∈ m, c.1 < cap

end Sys2Proof.Machine
end

