-- ==== Sys2Proof/Machine/Operands.lean ====
section
/-! DEFINITION. The operand forms: a buffer byte at index A, the readable windows (20_memory.md R51), the legal lengths
(40_frame_access.md R112), the payload windows the checksum and ENCODE read (R55), and results zero-extended to 32 bits
(30_encoding.md R88). -/

namespace Sys2Proof.Machine

/-- What TXB reads as at an index nothing was written to since reset: its reset draw (10_state.md R24; log entry 4). -/
def State.txbUnlisted (s : State) (i : Nat) : Byte := Config.txbDraw s.draws i

/-- What RXB holds at an index nothing was stored at since reset (R29; log entry 5). -/
def State.rxbUnlisted (s : State) (i : Nat) : Byte := Config.rxbDraw s.draws i

/-- TXB[i] (R24). -/
def State.txbAt (s : State) (i : Nat) : Byte := (s.txb.read i).getD (s.txbUnlisted i)

/-- RXB[i] (R29). -/
def State.rxbAt (s : State) (i : Nat) : Byte := (s.rxb.read i).getD (s.rxbUnlisted i)

/-- A TX index is legal when it is below plen(TX_LEN) (20_memory.md R51). -/
def State.txIndexLegal (s : State) (a : Half) : Bool := decide (a < plen s.txLen)

/-- An RX index is legal when it is below DEC_CNT (R51). -/
def State.rxIndexLegal (s : State) (a : Half) : Bool := decide (a < s.decCnt)

/-- A frame length is legal when its payload fits TX_CAP (10_state.md R23, 40_frame_access.md R112). -/
def State.txLenLegal (s : State) (a : Half) : Bool := decide ((plen a).toNat ≤ s.cfg.txCap)

/-- TXB[0..plen(TX_LEN)), the outbound payload (10_state.md R24). -/
def State.txPayload (s : State) : List Byte := (List.range (plen s.txLen).toNat).map s.txbAt

/-- RXB[0..DEC_CNT), the payload bytes stored (R37, 40_frame_access.md R124). -/
def State.rxPayload (s : State) : List Byte := (List.range s.decCnt.toNat).map s.rxbAt

/-- chk over the TX frame's current contents (40_frame_access.md R114, R119). -/
def State.txChk (s : State) : Byte := chk s.txType s.txPayload

/-- chk over the RX frame's stored contents (R124). -/
def State.rxChk (s : State) : Byte := chk s.rxType s.rxPayload

/-- zext_32 of an 8-bit value (30_encoding.md R88). -/
def byteResult (b : Byte) : Word := b.setWidth 32

/-- zext_32 of a 16-bit value (R88). -/
def halfResult (h : Half) : Word := h.setWidth 32

/-- The result of a verify: 1 pass, 0 fail (R89, 40_frame_access.md R119). -/
def passResult (pass : Bool) : Word := if pass then 1 else 0

end Sys2Proof.Machine
end

