-- ==== Sys2Proof/Machine/Ops.lean ====
section
/-! DEFINITION. The operations the meanings share: responding and command errors (the block's only "raise"), frame errors
and the Clear that leaves them (the block's "trap entry" and "trap return", 60_exceptions.md R217, R218), register and
buffer writes, the byte source and sink, and reset. -/

namespace Sys2Proof.Machine

/-! ## Response and command error -/

/-- respond(rc, val): the current command ends with this response (00_scope.md R11, 30_encoding.md R92). -/
def State.respond (s : State) (rc : RespCode) (val : Word) : State := { s with port := .responded ⟨rc, val⟩ }

/-- raise CmdError(rc): the command ends with respond(rc, 0) and no other change (60_exceptions.md R211). -/
def State.raiseCmdError (s : State) (rc : RespCode) : State := s.respond rc 0

/-- The port can take a command: none is executing (30_encoding.md R94). -/
def Port.accepts : Port → Bool
  | .idle => true
  | .responded _ => true
  | .issued _ => false
  | .decoding => false
  | .encoding _ _ => false

/-! ## Frame error and Clear -/

/-- terminate(err): the frame ends with an error; every other register keeps its value (42_decoder.md R181). -/
def State.terminate (s : State) (err : RxErr) : State := { s with rxStat := .errored, rxErr := err }

/-- Clear(): the decoder's reset discipline; RXB is not written (R171). -/
def State.clear (s : State) : State :=
  { s with
    decSt := .awaitStart
    decEsc := false
    decAcc := 0x00
    decCnt := 0x0000
    rxType := 0x00
    rxLen := 0x0000
    rxCsum := 0x00
    rxStat := .pending
    rxErr := .noError }

/-! ## Register and buffer writes -/

/-- TXB[i] <- b (00_scope.md R11). -/
def State.writeTxb (s : State) (i : Half) (b : Byte) : State := { s with txb := s.txb.write i.toNat b }

/-- RXB[i] <- b (R11). -/
def State.writeRxb (s : State) (i : Half) (b : Byte) : State := { s with rxb := s.rxb.write i.toNat b }

/-- TX_CSUM <- chk of the TX frame, TX_CSV <- 1 (40_frame_access.md R114, 41_encoder.md R150). -/
def State.storeTxCsum (s : State) : State := { s with txCsum := s.txChk, txCsv := true }

/-! ## Byte source and byte sink -/

/-- The source environment appends b to the tail of SRC (20_memory.md R58). -/
def State.srcAppend (s : State) (b : Byte) : State := { s with src := s.src ++ [b] }

/-- SinkWrite(b): b is appended to the tail of SNK, always at once (R62). -/
def State.sinkWrite (s : State) (b : Byte) : State := { s with snk := s.snk ++ [b] }

/-- SinkFlush(): a call of flush(). With SINK_FLUSH_DELIVERS, every byte in SNK has been delivered when it returns;
without, SNK is as it was and drains later (R63, 00_scope.md R7; log entry 12). -/
def State.sinkFlush (s : State) : State :=
  { s with
    flushCalls := s.flushCalls + 1
    link := if s.cfg.sinkFlushDelivers then s.link ++ s.snk else s.link
    snk := if s.cfg.sinkFlushDelivers then [] else s.snk }

/-- The sink environment takes the head of SNK and delivers it; there is nothing to take from an empty SNK (R62; log entry
13). -/
def State.sinkDrain (s : State) : State :=
  match s.snk with
  | [] => s
  | b :: rest => { s with snk := rest, link := s.link ++ [b] }

/-! ## Reset -/

/-- Reset writes each register its reset value, draws the buffers anew, and touches neither SRC nor SNK
(70_reset_and_hazards.md R240, R242; log entry 9). -/
def State.applyReset (s : State) : State :=
  { s with
    draws := s.draws + 1
    txType := 0x00
    txLen := 0x0000
    txb := []
    txCsum := 0x00
    txCsv := false
    rxType := 0x00
    rxLen := 0x0000
    rxb := []
    rxCsum := 0x00
    rxStat := .pending
    rxErr := .noError
    decSt := .awaitStart
    decEsc := false
    decAcc := 0x00
    decCnt := 0x0000
    resetPending := false }

/-- A reset asserted during a command is due as soon as its response has been returned (R241; log entry 8). -/
def State.resetDue (s : State) : Bool := s.resetPending && s.port.accepts

/-- Reset is asserted: applied at once between commands, held until the response during one (R241). -/
def State.assertReset (s : State) : State :=
  if s.port.accepts then s.applyReset else { s with resetPending := true }

end Sys2Proof.Machine
end

