-- ==== Sys2Proof/Machine/FrameAccess.lean ====
section
/-! DEFINITION. The frame access and checksum commands (40_frame_access.md R111 to R126). Each one always answers a next
state: a command error is a response (60_exceptions.md R211). -/

namespace Sys2Proof.Machine

/-- The outcome of one step of this machine. -/
abbrev Result := Host.Outcome State Fault Refusal

/-! ## Building the TX frame -/

/-- TX_SET_TYPE (R111). -/
def execTxSetType (b : Byte) (s : State) : Result := .next (State.respond { s with txType := b } .ok 0)

/-- TX_SET_LEN (R112). -/
def execTxSetLen (a : Half) (s : State) : Result :=
  .next (if s.txLenLegal a then State.respond { s with txLen := a } .ok 0 else s.raiseCmdError .badLength)

/-- TX_WRITE (R113). -/
def execTxWrite (a : Half) (b : Byte) (s : State) : Result :=
  .next (if s.txIndexLegal a then (s.writeTxb a b).respond .ok 0 else s.raiseCmdError .badIndex)

/-- TX_CSUM (R114). -/
def execTxCsum (s : State) : Result := .next (s.storeTxCsum.respond .ok (byteResult s.txChk))

/-! ## Reading the TX frame -/

/-- TX_RD_TYPE (R115). -/
def execTxRdType (s : State) : Result := .next (s.respond .ok (byteResult s.txType))

/-- TX_RD_LEN (R116). -/
def execTxRdLen (s : State) : Result := .next (s.respond .ok (halfResult s.txLen))

/-- TX_RD_BYTE (R117). -/
def execTxRdByte (a : Half) (s : State) : Result :=
  .next (if s.txIndexLegal a then s.respond .ok (byteResult (s.txbAt a.toNat)) else s.raiseCmdError .badIndex)

/-- TX_RD_CSUM (R118). -/
def execTxRdCsum (s : State) : Result := .next (s.respond .ok (byteResult s.txCsum))

/-- TX_VERIFY (R119): TX_CSUM is neither read nor written. -/
def execTxVerify (b : Byte) (s : State) : Result := .next (s.respond .ok (passResult (s.txChk == b)))

/-! ## Reading the RX frame -/

/-- RX_RD_TYPE (R120). -/
def execRxRdType (s : State) : Result := .next (s.respond .ok (byteResult s.rxType))

/-- RX_RD_LEN (R121). -/
def execRxRdLen (s : State) : Result := .next (s.respond .ok (halfResult s.rxLen))

/-- RX_RD_BYTE (R122). -/
def execRxRdByte (a : Half) (s : State) : Result :=
  .next (if s.rxIndexLegal a then s.respond .ok (byteResult (s.rxbAt a.toNat)) else s.raiseCmdError .badIndex)

/-- RX_RD_CSUM (R123). -/
def execRxRdCsum (s : State) : Result := .next (s.respond .ok (byteResult s.rxCsum))

/-- RX_VERIFY (R124): the sum covers the DEC_CNT bytes stored. -/
def execRxVerify (b : Byte) (s : State) : Result := .next (s.respond .ok (passResult (s.rxChk == b)))

/-! ## Status reads -/

/-- RD_STATUS (R125): it does not Clear. -/
def execRdStatus (s : State) : Result := .next (s.respond .ok s.status)

/-- RD_TXSTAT (R126). -/
def execRdTxstat (s : State) : Result := .next (s.respond .ok s.txstat)

end Sys2Proof.Machine
end

