-- ==== Sys2Proof/Machine/Encoder.lean ====
section
/-! DEFINITION. The encoder and the sink flush (41_encoder.md R150 to R155). -/

namespace Sys2Proof.Machine

/-- The four reserved bytes (00_scope.md R12). -/
def reserved (b : Byte) : Bool := b == 0x7E || b == 0x7D || b == 0x11 || b == 0x13

/-- Byte stuffing of one byte (R12, 30_encoding.md R85). -/
def esc (b : Byte) : List Byte := if reserved b then [escByte, b ^^^ 0x20] else [b]

/-- Byte stuffing of a sequence (R85). -/
def escAll (bytes : List Byte) : List Byte := bytes.flatMap esc

/-- The unescaped content after START: S = [LEN[15:8], LEN[7:0], TYPE, payload, CHECKSUM] (R83). -/
def frameContent (t : Byte) (n : Half) (payload : List Byte) (c : Byte) : List Byte :=
  [n.extractLsb' 8 8, n.extractLsb' 0 8, t] ++ payload ++ [c]

/-- The emitted sequence enc(t, n, p, c): a raw START, then the stuffed content (41_encoder.md R151). -/
def enc (t : Byte) (n : Half) (payload : List Byte) (c : Byte) : List Byte :=
  startByte :: escAll (frameContent t n payload c)

/-- The checksum ENCODE sends is there: it is computed while TX_CSV = 0 and taken as stored otherwise (R150). -/
def State.ensureTxCsum (s : State) : State := if s.txCsv then s else s.storeTxCsum

/-- The wire bytes of the TX frame as stored (R150, R151). -/
def State.txWire (s : State) : List Byte := enc s.txType s.txLen s.txPayload s.txCsum

/-- ENCODE (R150): the checksum is ensured, and the port holds the wire bytes. The block writes them to the sink one a step
and then responds with their number (`State.encodeTick`), so that the source and sink environments can act between two
SinkWrites (20_memory.md R65; log entry 14). -/
def execEncode (s : State) : Result :=
  .next { s.ensureTxCsum with port := .encoding s.ensureTxCsum.txWire s.ensureTxCsum.txWire.length }

/-- One step of ENCODE's write loop: SinkWrite the next byte, or respond with the count when none is left (R150, R152). -/
def State.encodeTick (s : State) (todo : List Byte) (total : Nat) : State :=
  match todo with
  | [] => s.respond .ok (BitVec.ofNat 32 total)
  | b :: rest => { s.sinkWrite b with port := .encoding rest total }

/-- FLUSH (R155). -/
def execFlush (s : State) : Result := .next (s.sinkFlush.respond .ok 0)

end Sys2Proof.Machine
end

