-- ==== Sys2Proof/Machine/Decoder.lean ====
section
/-! DEFINITION. The streaming decoder: the DECODE command (42_decoder.md R170) and the byte step machine (R172 to R184),
one definition a rule. -/

namespace Sys2Proof.Machine

/-- DECODE (R170): a terminal frame is Cleared, and the loop begins; `Machine/Fetch.lean` reads SRC for it and ends it. -/
def execDecode (s : State) : Result :=
  .next { (if s.rxStat = .pending then s else s.clear) with port := .decoding }

/-- AwaitStart(r) (R173): any byte but START is discarded. -/
def State.awaitStart (s : State) (r : Byte) : State := if r = startByte then { s with decSt := .lenMsb } else s

/-- LenMsb(b) (R177): RX_LEN[15:8] <- b. -/
def State.lenMsb (s : State) (b : Byte) : State := { s with rxLen := b ++ s.rxLen.extractLsb' 0 8, decSt := .lenLsb }

/-- LenLsb(b) (R178): RX_LEN[7:0] <- b; every length is accepted. -/
def State.lenLsb (s : State) (b : Byte) : State :=
  { s with rxLen := s.rxLen.extractLsb' 8 8 ++ b, decSt := .frameType }

/-- FrameType(b) (R179). -/
def State.frameType (s : State) (b : Byte) : State :=
  { s with rxType := b, decAcc := s.decAcc + b, decCnt := 0, decSt := .payload }

/-- DataByte(b) (R182). -/
def State.dataByte (s : State) (b : Byte) : State :=
  { s.writeRxb s.decCnt b with decAcc := s.decAcc + b, decCnt := s.decCnt + 1 }

/-- Overflow(b) (R183): the byte is not stored and not added. -/
def State.overflow (s : State) : State := s.terminate .bufferCapacityExceeded

/-- Checksum(b) (R184): stored and added on both outcomes. -/
def State.checksum (s : State) (b : Byte) : State :=
  if s.decAcc + b = 0xFF then
    { s with rxCsum := b, decAcc := s.decAcc + b, rxStat := .ready, rxErr := .noError }
  else
    State.terminate { s with rxCsum := b, decAcc := s.decAcc + b } .checksumFailure

/-- Payload(b) (R180): the checksum test comes first, then the capacity test. -/
def State.payloadByte (s : State) (b : Byte) : State :=
  if s.decCnt = plen s.rxLen then s.checksum b
  else if s.decCnt.toNat = s.cfg.rxCap then s.overflow
  else s.dataByte b

/-- unescape(r): the data symbol's value (R176). -/
def State.unescape (s : State) (r : Byte) : Byte := if s.decEsc then r ^^^ 0x20 else r

/-- A data symbol's byte b goes to the state's rule (R172). AWAIT_START has no data symbols: `State.rxByte` tests it
before. -/
def State.dataSymbol (s : State) (b : Byte) : State :=
  match s.decSt with
  | .awaitStart => s
  | .lenMsb => s.lenMsb b
  | .lenLsb => s.lenLsb b
  | .frameType => s.frameType b
  | .payload => s.payloadByte b

/-- RxByte(r): one raw byte, its conditions tested in R172's order. A frame that has ended takes no byte step (R170,
60_exceptions.md R218; log entry 15). -/
def State.rxByte (s : State) (r : Byte) : State :=
  if s.rxStat ≠ .pending then s
  else if s.decSt = .awaitStart then s.awaitStart r
  else if r = startByte then s.terminate .unexpectedStart
  else if s.decEsc = false ∧ r = escByte then { s with decEsc := true }
  else State.dataSymbol { s with decEsc := false } (s.unescape r)

/-- Raw bytes in order, each given to one RxByte (R188). -/
def State.rxBytes (s : State) (bytes : List Byte) : State := bytes.foldl State.rxByte s

/-- The end of DECODE's loop: respond(0, STATUS) (R170). -/
def State.decodeEnd (s : State) : State := s.respond .ok s.status

end Sys2Proof.Machine
end

