-- ==== Sys2Proof/Machine/Wire.lean ====
section
/-! DEFINITION. The WIRE symbols as the instructions of DECODE's loop: each gives its raw bytes to the decoder's byte step
(42_decoder.md R172). The bytes have left SRC when a symbol runs (Fetch.lean). -/

namespace Sys2Proof.Machine

/-- A symbol of one raw byte. -/
def State.rxSingle (s : State) (r : Byte) : State := s.rxByte r

/-- A symbol 7D x: both bytes, or x alone where the decoder took in the escape byte before (DEC_ESC = 1; R175, R176; log
entry 16). -/
def State.rxEscaped (s : State) (x : Byte) : State := if s.decEsc then s.rxByte x else s.rxBytes [escByte, x]

/-- WIRE_START: begins a frame in AWAIT_START (R173), UnexpectedStart elsewhere (R174). -/
def execWireStart (s : State) : Result := .next (s.rxSingle startByte)

/-- WIRE_ESC_7E: the pair 7D 5E (R175, R176). -/
def execWireEsc7E (s : State) : Result := .next (s.rxEscaped 0x5E)

/-- WIRE_ESC_7D: the pair 7D 5D (R175, R176). -/
def execWireEsc7D (s : State) : Result := .next (s.rxEscaped 0x5D)

/-- WIRE_ESC_11: the pair 7D 31 (R175, R176). -/
def execWireEsc11 (s : State) : Result := .next (s.rxEscaped 0x31)

/-- WIRE_ESC_13: the pair 7D 33 (R175, R176). -/
def execWireEsc13 (s : State) : Result := .next (s.rxEscaped 0x33)

/-- WIRE_ESC_OTHER: any other pair 7D x is accepted too (R176). -/
def execWireEscOther (x : Byte) (s : State) : Result := .next (s.rxEscaped x)

/-- WIRE_DATA: one raw byte as it arrives (R86, R176). -/
def execWireData (b : Byte) (s : State) : Result := .next (s.rxSingle b)

end Sys2Proof.Machine
end

