-- ==== Sys2Proof/Machine/Dispatch.lean ====
section
/-! DEFINITION. One arm for each instruction, calling its meaning. -/

namespace Sys2Proof.Machine

/-- The meaning of an instruction on a state. -/
def exec (i : Instr) (s : State) : Host.Outcome State Fault Refusal :=
  match i with
  | .txSetType b => Sys2Proof.Machine.execTxSetType b s
  | .txSetLen a => Sys2Proof.Machine.execTxSetLen a s
  | .txWrite a b => Sys2Proof.Machine.execTxWrite a b s
  | .txCsum => Sys2Proof.Machine.execTxCsum s
  | .encode => Sys2Proof.Machine.execEncode s
  | .flush => Sys2Proof.Machine.execFlush s
  | .decode => Sys2Proof.Machine.execDecode s
  | .rdStatus => Sys2Proof.Machine.execRdStatus s
  | .rdTxstat => Sys2Proof.Machine.execRdTxstat s
  | .txRdType => Sys2Proof.Machine.execTxRdType s
  | .txRdLen => Sys2Proof.Machine.execTxRdLen s
  | .txRdByte a => Sys2Proof.Machine.execTxRdByte a s
  | .txRdCsum => Sys2Proof.Machine.execTxRdCsum s
  | .txVerify b => Sys2Proof.Machine.execTxVerify b s
  | .rxRdType => Sys2Proof.Machine.execRxRdType s
  | .rxRdLen => Sys2Proof.Machine.execRxRdLen s
  | .rxRdByte a => Sys2Proof.Machine.execRxRdByte a s
  | .rxRdCsum => Sys2Proof.Machine.execRxRdCsum s
  | .rxVerify b => Sys2Proof.Machine.execRxVerify b s
  | .wireStart => Sys2Proof.Machine.execWireStart s
  | .wireEsc7E => Sys2Proof.Machine.execWireEsc7E s
  | .wireEsc7D => Sys2Proof.Machine.execWireEsc7D s
  | .wireEsc11 => Sys2Proof.Machine.execWireEsc11 s
  | .wireEsc13 => Sys2Proof.Machine.execWireEsc13 s
  | .wireEscOther x => Sys2Proof.Machine.execWireEscOther x s
  | .wireData b => Sys2Proof.Machine.execWireData b s

end Sys2Proof.Machine
end

