-- ==== Sys2Proof/Machine/Fetch.lean ====
section
/-! DEFINITION. What the block's next step is: an instruction to run (a command word from the port, a wire symbol from SRC
while DECODE loops), or a step of its own. Also the steps of the host, the two environments and the reset input
(10_state.md R20). -/

namespace Sys2Proof.Machine

/-- The next move, and the state with that move taken off: the head of `sched`, else the next of `later` (10_state.md R20;
log entries 1 and 25). -/
def State.nextMove (s : State) : Event × State :=
  match s.sched, s.later with
  | e :: rest, _ => (e, { s with sched := rest })
  | [], .cycle (e :: rest) => (e, { s with sched := rest })
  | [], .cycle [] => (.turn, s)
  | [], .free n => (Config.freeMove n, { s with later := .free (n + 1) })

/-- What the block does next. -/
inductive Fetched where
  /-- Run this instruction on this state. -/
  | run (i : Instr) (s : State)
  /-- A step that is no instruction's: it gives this state. -/
  | settled (s : State)
deriving DecidableEq, Repr

/-- A command word: its instruction, or CmdError(BAD_OPCODE) (30_encoding.md R90, 60_exceptions.md R216). -/
def State.fetchCommand (s : State) (w : Word) : Fetched :=
  match decodeCmd w with
  | .instr i => .run i s
  | .reject _ => .settled (s.raiseCmdError .badOpcode)

/-- One round of DECODE's loop (42_decoder.md R170). A frame that ended or an empty SRC ends it. Otherwise the symbol at the
head of SRC is read; an escape byte whose data byte is not there is taken in alone (R175; log entry 2). -/
def State.fetchSymbol (s : State) : Fetched :=
  if s.rxStat ≠ .pending then .settled s.decodeEnd
  else
    match s.src with
    | [] => .settled s.decodeEnd
    | r :: rest =>
      match decodeWire s.decEsc (r :: rest) with
      | .instr (i, left) => .run i { s with src := left }
      | .reject _ => .settled (State.rxByte { s with src := rest } r)

/-- The block's next step. With no command executing it has none, and its turn changes nothing (log entry 11). -/
def State.fetch (s : State) : Fetched :=
  match s.port with
  | .idle => .settled s
  | .responded _ => .settled s
  | .issued w => s.fetchCommand w
  | .encoding todo total => .settled (s.encodeTick todo total)
  | .decoding => s.fetchSymbol

/-- The host issues a command word; before the previous response it has no step (R94, 70_reset_and_hazards.md R252; log
entry 7). -/
def hostStep (w : Word) (s : State) : Result :=
  if s.port.accepts then .next { s with port := .issued w } else .fault .commandBeforeResponse

/-- The source environment appends a byte (20_memory.md R58). -/
def sourceStep (b : Byte) (s : State) : Result := .next (s.srcAppend b)

/-- The sink environment delivers a byte (R62). -/
def sinkStep (s : State) : Result := .next s.sinkDrain

/-- The reset input (70_reset_and_hazards.md R241). -/
def resetStep (s : State) : Result := .next s.assertReset

/-- The state with this encoding next in line: a command word issued on the port, or raw bytes at the head of SRC with
DECODE in its loop, at a symbol boundary of a frame that has not ended (log entry 10). -/
def State.place (s : State) (e : Encoding) : State :=
  match e with
  | .cmd1 w => { s with port := .issued w }
  | .wire bytes =>
    { (if s.rxStat = .pending then s else s.clear) with port := .decoding, decEsc := false, src := bytes ++ s.src }

end Sys2Proof.Machine
end

