-- ==== Sys2Proof/Machine/Step.lean ====
section
/-! DEFINITION. One step of the machine: the next agent moves (10_state.md R20; log entries 1 and
25). -/

namespace Sys2Proof.Machine

/-- The block's step (R20). -/
def blockStep (s : State) : Host.Outcome State Fault Refusal :=
  match s.fetch with
  | .run i s' => exec i s'
  | .settled s' => .next s'

/-- A move of an agent (R20). -/
def perform (e : Event) (s : State) : Host.Outcome State Fault Refusal :=
  match e with
  | .turn => blockStep s
  | .command w => hostStep w s
  | .arrive b => sourceStep b s
  | .drain => sinkStep s
  | .reset => resetStep s

/-- One step. A reset that became due is applied first (70_reset_and_hazards.md R241); then the next move is made. -/
def step (s : State) : Host.Outcome State Fault Refusal :=
  if s.resetDue then .next s.applyReset else perform s.nextMove.1 s.nextMove.2

/-- The state in which the very next step runs the instruction whose bits the opcode table gives as w: it is placed where
the block fetches it, and the block has the next turn (log entry 10). -/
def State.withFetchWord (s : State) (nbits w : Nat) : State :=
  { s.place (tableEncoding nbits w) with sched := .turn :: s.sched }

end Sys2Proof.Machine
end

