-- ==== Sys2Proof/Machine/Assembler.lean ====
section
/-! DEFINITION. The assembler syntax of CMD1 (30_encoding.md R95): a mnemonic, then the operands it uses in the order A, B,
separated by a comma. What R95 leaves open of the text (blanks, comments, the case of hexadecimal digits) is log entry
23. -/

namespace Sys2Proof.Machine

/-- A mnemonic with its opcode and the operands it writes (R89, R95). -/
structure AsmRow where
  name : String
  op : Byte
  usesA : Bool
  usesB : Bool
deriving DecidableEq, Repr

/-- The commands of R89 as R95 writes them. -/
def asmTable : List AsmRow :=
  [ ⟨"TX_SET_TYPE", 0x01, false, true⟩,
    ⟨"TX_SET_LEN", 0x02, true, false⟩,
    ⟨"TX_WRITE", 0x03, true, true⟩,
    ⟨"TX_CSUM", 0x04, false, false⟩,
    ⟨"ENCODE", 0x05, false, false⟩,
    ⟨"FLUSH", 0x06, false, false⟩,
    ⟨"DECODE", 0x10, false, false⟩,
    ⟨"RD_STATUS", 0x11, false, false⟩,
    ⟨"RD_TXSTAT", 0x12, false, false⟩,
    ⟨"TX_RD_TYPE", 0x20, false, false⟩,
    ⟨"TX_RD_LEN", 0x21, false, false⟩,
    ⟨"TX_RD_BYTE", 0x22, true, false⟩,
    ⟨"TX_RD_CSUM", 0x23, false, false⟩,
    ⟨"TX_VERIFY", 0x24, false, true⟩,
    ⟨"RX_RD_TYPE", 0x30, false, false⟩,
    ⟨"RX_RD_LEN", 0x31, false, false⟩,
    ⟨"RX_RD_BYTE", 0x32, true, false⟩,
    ⟨"RX_RD_CSUM", 0x33, false, false⟩,
    ⟨"RX_VERIFY", 0x34, false, true⟩ ]

/-- A piece of a line: a comma, or a run of other characters. -/
inductive AsmToken where
  | comma
  | text (chars : List Char)
deriving DecidableEq, Repr

/-- The pending run of characters as a token, if it is not empty. -/
def flushText (run : List Char) : List AsmToken := if run.isEmpty then [] else [.text run.reverse]

/-- Cut a line at blanks and commas; a semicolon begins a comment. `run` is the run being read, last character first. -/
def asmTokens (run : List Char) : List Char → List AsmToken
  | [] => flushText run
  | c :: rest =>
    if c = ';' then flushText run
    else if c = ' ' ∨ c = '\t' then flushText run ++ asmTokens [] rest
    else if c = ',' then flushText run ++ .comma :: asmTokens [] rest
    else asmTokens (c :: run) rest

/-- A digit's value below the base. -/
def digitValue (base : Nat) (c : Char) : Option Nat :=
  let n := c.toNat
  let v :=
    if 48 ≤ n ∧ n ≤ 57 then n - 48
    else if 65 ≤ n ∧ n ≤ 70 then n - 55
    else if 97 ≤ n ∧ n ≤ 102 then n - 87
    else base
  if v < base then some v else none

/-- Digits, most significant first, after a value read so far. -/
def digitsValue (base acc : Nat) : List Char → Option Nat
  | [] => some acc
  | c :: rest => (digitValue base c).bind (fun v => digitsValue base (acc * base + v) rest)

/-- A number in hexadecimal with 0x, or in decimal (R95). -/
def numberValue : List Char → Option Nat
  | [] => none
  | '0' :: 'x' :: [] => none
  | '0' :: 'x' :: digits => digitsValue 16 0 digits
  | digits => digitsValue 10 0 digits

/-- A number that fits the operand's bits. -/
def operandValue (bits : Nat) (chars : List Char) : Option Nat :=
  (numberValue chars).bind (fun v => if v < 2 ^ bits then some v else none)

/-- The command word of a row and its operand tokens; an operand the row does not use is not written and assembles as zero
(R95). -/
def asmOperands (row : AsmRow) (operands : List AsmToken) : Option Word :=
  match row.usesA, row.usesB, operands with
  | false, false, [] => some (cmdWord row.op 0 0)
  | true, false, [.text a] => (operandValue 16 a).map (fun va => cmdWord row.op (BitVec.ofNat 16 va) 0)
  | false, true, [.text b] => (operandValue 8 b).map (fun vb => cmdWord row.op 0 (BitVec.ofNat 8 vb))
  | true, true, [.text a, .comma, .text b] =>
    (operandValue 16 a).bind (fun va =>
      (operandValue 8 b).map (fun vb => cmdWord row.op (BitVec.ofNat 16 va) (BitVec.ofNat 8 vb)))
  | _, _, _ => none

/-- The command word a line stands for, or none where the line is not of R95's form. -/
def assemble (line : String) : Option Word :=
  match asmTokens [] line.toList with
  | .text name :: operands => (asmTable.find? (fun row => row.name.toList == name)).bind (fun row => asmOperands row operands)
  | _ => none

end Sys2Proof.Machine
end

