-- ==== Sys2Proof/Machine/Pseudo.lean ====
section
/-! DEFINITION. The pseudo-instruction TX_BUILD (30_encoding.md R97): host software that stands for a sequence of
commands. -/

namespace Sys2Proof.Machine

/-- TX_WRITE i, p(i) for each payload byte in index order (R97). -/
def txWrites (payload : List Byte) : List Instr :=
  payload.zipIdx.map (fun byteAt => .txWrite (BitVec.ofNat 16 byteAt.2) byteAt.1)

/-- TX_BUILD t, p expands to exactly this sequence (R97, for at most TX_CAP bytes; log entry 22). -/
def txBuild (t : Byte) (payload : List Byte) : List Instr :=
  [.txSetType t, .txSetLen (BitVec.ofNat 16 (payload.length + 1))] ++ txWrites payload ++ [.txCsum]

end Sys2Proof.Machine
end

