-- ==== Sys2Proof/Safety.lean ====
section
/-! DEFINITION. The terms claims are made in: what a step leaves unchanged, the invariants of 10_state.md R23, R26, R33 and
R37 with what 42_decoder.md R173 and R184 derive, runs of several steps, and what an agent's schedule holds. -/

namespace Sys2Proof.Machine

/-! ## What stays the same -/

/-- Every TX register and every byte of TXB reads as before. -/
def SameTx (s t : State) : Prop :=
  t.txType = s.txType ∧ t.txLen = s.txLen ∧ t.txCsum = s.txCsum ∧ t.txCsv = s.txCsv ∧ ∀ i, t.txbAt i = s.txbAt i

/-- Every RX register and every byte of RXB reads as before. -/
def SameRx (s t : State) : Prop :=
  t.rxType = s.rxType ∧ t.rxLen = s.rxLen ∧ t.rxCsum = s.rxCsum ∧ t.rxStat = s.rxStat ∧ t.rxErr = s.rxErr ∧
    ∀ i, t.rxbAt i = s.rxbAt i

/-- Every decoder register is as before. -/
def SameDec (s t : State) : Prop :=
  t.decSt = s.decSt ∧ t.decEsc = s.decEsc ∧ t.decAcc = s.decAcc ∧ t.decCnt = s.decCnt

/-- The byte source and the byte sink are as before. -/
def SameLink (s t : State) : Prop :=
  t.src = s.src ∧ t.snk = s.snk ∧ t.link = s.link ∧ t.flushCalls = s.flushCalls

/-- The parameters, the free values in force, the reset latch and the schedule are as before. -/
def SameRest (s t : State) : Prop :=
  t.cfg = s.cfg ∧ t.draws = s.draws ∧ t.resetPending = s.resetPending ∧ t.sched = s.sched ∧
    t.later = s.later

/-- Nothing but the command port differs. -/
def SameBlock (s t : State) : Prop := SameTx s t ∧ SameRx s t ∧ SameDec s t ∧ SameLink s t ∧ SameRest s t

/-- The RX frame and the decoder are as before. -/
def SameRxSide (s t : State) : Prop := SameRx s t ∧ SameDec s t

/-- Source, sink, parameters, reset latch and schedule are as before. -/
def SameAround (s t : State) : Prop := SameLink s t ∧ SameRest s t

/-- The TX registers other than TXB are as before. -/
def SameTxRegs (s t : State) : Prop :=
  t.txType = s.txType ∧ t.txLen = s.txLen ∧ t.txCsum = s.txCsum ∧ t.txCsv = s.txCsv

/-! ## Invariants -/

/-- Both buffers are in canonical form and list only bytes that exist (10_state.md R24, R29). -/
def MemInv (s : State) : Prop :=
  s.txb.wf ∧ s.rxb.wf ∧ s.txb.below s.cfg.txCap ∧ s.rxb.below s.cfg.rxCap

/-- The TX frame: its payload fits (R23), and no checksum is stored before the first one is computed (R26). -/
def TxInv (s : State) : Prop := (plen s.txLen).toNat ≤ s.cfg.txCap ∧ (s.txCsv = false → s.txCsum = 0x00)

/-- A frame whose type byte has not arrived: no error but UnexpectedStart can have ended it, and the rest is as Clear left
it (42_decoder.md R171, R173). -/
def BeforeType (s : State) : Prop :=
  s.rxStat ≠ .ready ∧ (s.rxErr = .noError ∨ s.rxErr = .unexpectedStart) ∧
    s.decAcc = 0x00 ∧ s.decCnt = 0x0000 ∧ s.rxType = 0x00 ∧ s.rxCsum = 0x00

/-- Type and payload bytes are summed, and the checksum byte has not arrived (R184). -/
def BeforeChecksum (s : State) : Prop := s.rxCsum = 0x00 ∧ s.decAcc = sum8 s.rxType s.rxPayload

/-- A frame whose checksum byte has arrived (R184). -/
def AfterChecksum (s : State) : Prop :=
  s.decCnt = plen s.rxLen ∧ s.decAcc = sum8 s.rxType s.rxPayload + s.rxCsum ∧ s.decEsc = false

/-- The RX frame and the decoder: R33, R37, and what each decoder state has received so far. -/
def RxInv (s : State) : Prop :=
  s.decCnt.toNat ≤ s.cfg.rxCap ∧ (s.rxErr = .noError ↔ s.rxStat ≠ .errored) ∧
    match s.decSt with
    | .awaitStart => BeforeType s ∧ s.rxStat = .pending ∧ s.decEsc = false ∧ s.rxLen = 0x0000
    | .lenMsb => BeforeType s ∧ s.rxLen = 0x0000
    | .lenLsb => BeforeType s ∧ s.rxLen.extractLsb' 0 8 = 0x00
    | .frameType => BeforeType s
    | .payload =>
      s.decCnt.toNat ≤ (plen s.rxLen).toNat ∧
        match s.rxStat, s.rxErr with
        | .pending, _ => BeforeChecksum s
        | .ready, _ => AfterChecksum s ∧ s.decAcc = 0xFF
        | .errored, .noError => False
        | .errored, .checksumFailure => AfterChecksum s ∧ s.decAcc ≠ 0xFF
        | .errored, .bufferCapacityExceeded =>
          BeforeChecksum s ∧ s.decCnt.toNat = s.cfg.rxCap ∧ s.decCnt ≠ plen s.rxLen ∧ s.decEsc = false
        | .errored, .unexpectedStart => BeforeChecksum s

/-- ENCODE never has more bytes left than it began with, and never began with more than R152's maximum. -/
def PortInv (s : State) : Prop :=
  match s.port with
  | .encoding todo total => todo.length ≤ total ∧ total ≤ 1 + 2 * (4 + s.cfg.txCap)
  | .idle | .issued _ | .decoding | .responded _ => True

/-- The invariant of the machine. -/
def CodecInv (s : State) : Prop := MemInv s ∧ TxInv s ∧ RxInv s ∧ PortInv s

/-! ## Symbols -/

/-- The wire symbol the encoder sends for a byte after START (30_encoding.md R85). -/
def symbolOf (b : Byte) : Instr :=
  if b = 0x7E then .wireEsc7E
  else if b = 0x7D then .wireEsc7D
  else if b = 0x11 then .wireEsc11
  else if b = 0x13 then .wireEsc13
  else .wireData b

/-! ## Runs -/

/-- `n` steps. -/
def run (n : Nat) (s : State) : Host.Outcome State Fault Refusal := Host.Core.run Sys2Proof.core n s

/-- Instructions executed one after the other. -/
def execAll : List Instr → State → Host.Outcome State Fault Refusal
  | [], s => .next s
  | i :: rest, s =>
    match exec i s with
    | .next t => execAll rest t
    | .fault r => .fault r
    | .refused r => .refused r

/-- Only the block moves, now and ever after. -/
def OnlyBlock (s : State) : Prop := s.sched = [] ∧ s.later = .cycle []

/-- The block moves next; `u` is the state with that turn taken off the schedule. -/
def BlockMoves (s u : State) : Prop := s.nextMove = (.turn, u)

/-- How many turns of the block a schedule holds. -/
def turns (es : List Event) : Nat := es.count .turn

/-- A schedule in which only the block and the source environment move. -/
def OnlyArrivals (es : List Event) : Prop := ∀ e ∈ es, e = .turn ∨ ∃ b, e = .arrive b

/-- The bytes a schedule brings, in order. -/
def arrivals : List Event → List Byte
  | [] => []
  | .arrive b :: rest => b :: arrivals rest
  | .turn :: rest => arrivals rest
  | .drain :: rest => arrivals rest
  | .reset :: rest => arrivals rest
  | .command _ :: rest => arrivals rest

end Sys2Proof.Machine
end

