-- ==== Sys2Proof/Certificates/Slice0/Obligations.lean ====
section
/-! DEFINITION. The statements for the provers. Each docstring names the rule of spec/ it formalises. -/

open Sys2Proof Sys2Proof.Machine

/-! ## Encodings -/

/-- Every well-formed instruction, with every operand value, decodes from its own encoding (R85 to R89). -/
def Obligations.DecodeInvertsEncode : Prop :=
  ∀ i : Instr, i.wf = true → decode (encode i) = .instr i

/-- R87, R89, R91: encoding what a word decodes to gives the word with its ignored fields zeroed. Only 02, 03, 22 and 32
use A, and only 01, 03, 24 and 34 use B. -/
def Obligations.EncodeZeroesIgnoredFields : Prop :=
  ∀ (w : Word) (i : Instr), decodeCmd w = .instr i →
    encode i = .cmd1 (cmdWord (opField w)
      (if opField w ∈ [0x02, 0x03, 0x22, 0x32] then aField w else 0)
      (if opField w ∈ [0x01, 0x03, 0x24, 0x34] then bField w else 0))

/-- R90: the unassigned opcodes are exactly 00, 07 to 0F, 13 to 1F, 25 to 2F and 35 to FF, and a command word with one of
them, run by the block at its turn, is answered BAD_OPCODE with no other change. -/
def Obligations.UnassignedOpcodesAnswerBadOpcode : Prop :=
  ∀ w : Word,
    (decodeCmd w = .reject .unassignedOpcode ↔
      (opField w).toNat = 0x00 ∨ (0x07 ≤ (opField w).toNat ∧ (opField w).toNat ≤ 0x0F) ∨
      (0x13 ≤ (opField w).toNat ∧ (opField w).toNat ≤ 0x1F) ∨ (0x25 ≤ (opField w).toNat ∧ (opField w).toNat ≤ 0x2F) ∨
      0x35 ≤ (opField w).toNat) ∧
    ∀ s u : State, decodeCmd w = .reject .unassignedOpcode → s.port = .issued w → BlockMoves s u →
      ∃ t, step s = .next t ∧ t.port = .responded ⟨.badOpcode, 0⟩ ∧ SameBlock u t

/-- R91: two command words that differ only in fields their row ignores are the same instruction: with A ignored for the
rows that use no A, and B for those that use no B. -/
def Obligations.IgnoredFieldsChangeNothing : Prop :=
  ∀ (op : Byte) (a a' : Half) (b b' : Byte),
    (op ∉ [0x02, 0x03, 0x22, 0x32] → decodeCmd (cmdWord op a b) = decodeCmd (cmdWord op a' b)) ∧
    (op ∉ [0x01, 0x03, 0x24, 0x34] → decodeCmd (cmdWord op a b) = decodeCmd (cmdWord op a b'))

/-- R95's words, written out there, decode to the commands they stand for; the wire rows of the table to their symbols. -/
def Obligations.WordsOfTheSpecDecode : Prop :=
  decodeTableWord 32 0x0100008A = some (.txSetType 0x8A) ∧
  decodeTableWord 32 0x02000200 = some (.txSetLen 0x0002) ∧
  decodeTableWord 32 0x03000002 = some (.txWrite 0x0000 0x02) ∧
  decodeTableWord 32 0x05000000 = some .encode ∧
  decodeTableWord 32 0x10000000 = some .decode ∧
  decodeTableWord 32 0x22000300 = some (.txRdByte 0x0003) ∧
  decodeTableWord 32 0x340000F8 = some (.rxVerify 0xF8) ∧
  decodeTableWord 8 0x7E = some .wireStart ∧
  decodeTableWord 16 0x7D5E = some .wireEsc7E ∧
  decodeTableWord 16 0x7D41 = some (.wireEscOther 0x41)

/-- R86: START, ESC and DATA in a symbol sequence, and what a pending escape makes of the next byte. -/
def Obligations.WireSymbolsAreClassified : Prop :=
  ∀ (r x : Byte) (rest : List Byte),
    decodeWire false (0x7E :: rest) = .instr (.wireStart, rest) ∧
    decodeWire true (0x7E :: rest) = .instr (.wireStart, rest) ∧
    (r ≠ 0x7E → r ≠ 0x7D → decodeWire false (r :: rest) = .instr (.wireData r, rest)) ∧
    (x ≠ 0x7E → decodeWire false (0x7D :: x :: rest) = .instr (escSymbol x, rest) ∧
      decodeWire true (x :: rest) = .instr (escSymbol x, rest) ∧ encode (escSymbol x) = .wire [0x7D, x])

/-- R95: the lines of the rule assemble to the words it gives beside them. -/
def Obligations.AssemblerGivesTheWordsOfTheSpec : Prop :=
  assemble "TX_SET_TYPE 0x8A        ; B = 0x8A" = some 0x0100008A ∧
  assemble "TX_SET_LEN  2           ; A = 0x0002" = some 0x02000200 ∧
  assemble "TX_WRITE    0, 0x02     ; A = 0, B = 0x02" = some 0x03000002 ∧
  assemble "TX_CSUM                 ;" = some 0x04000000 ∧
  assemble "ENCODE                  ;" = some 0x05000000 ∧
  assemble "FLUSH                   ;" = some 0x06000000 ∧
  assemble "DECODE                  ;" = some 0x10000000 ∧
  assemble "RD_STATUS               ;" = some 0x11000000 ∧
  assemble "RD_TXSTAT               ;" = some 0x12000000 ∧
  assemble "TX_RD_TYPE              ;" = some 0x20000000 ∧
  assemble "TX_RD_LEN               ;" = some 0x21000000 ∧
  assemble "TX_RD_BYTE  3           ; A = 3" = some 0x22000300 ∧
  assemble "TX_RD_CSUM              ;" = some 0x23000000 ∧
  assemble "TX_VERIFY   0x73        ; B = 0x73" = some 0x24000073 ∧
  assemble "RX_RD_TYPE              ;" = some 0x30000000 ∧
  assemble "RX_RD_LEN               ;" = some 0x31000000 ∧
  assemble "RX_RD_BYTE  1           ; A = 1" = some 0x32000100 ∧
  assemble "RX_RD_CSUM              ;" = some 0x33000000 ∧
  assemble "RX_VERIFY   0xF8        ; B = 0xF8" = some 0x340000F8

/-! ## Byte stuffing -/

/-- R157: escaping is an involution on the reserved bytes and nothing on the others, and inside a frame the decoder's removal
of escapes undoes it on every sequence: the decoder does with the stuffed bytes what its state rules do with the bytes
themselves, up to the end of the frame. That the bytes of a sequence after the end of the frame change nothing is the model's
choice (log entry 15). -/
def Obligations.EscapeRemovalInvertsStuffing : Prop :=
  (∀ b, reserved b = true → reserved (b ^^^ 0x20) = false ∧ (b ^^^ 0x20) ^^^ 0x20 = b) ∧
  (∀ b, reserved b = false → esc b = [b]) ∧
  ∀ (s : State) (bytes : List Byte), s.rxStat = .pending → s.decSt ≠ .awaitStart → s.decEsc = false →
    s.rxBytes (escAll bytes) = bytes.foldl (fun u b => if u.rxStat = .pending then u.dataSymbol b else u) s

/-- R156: after START the encoder sends no raw 7E, 11 or 13, and every 7D it sends is followed by one of 5E, 5D, 31, 33. -/
def Obligations.EncoderSendsNoRawReservedByte : Prop :=
  ∀ (t : Byte) (n : Half) (p : List Byte) (c : Byte), ∃ body,
    enc t n p c = 0x7E :: body ∧
    (∀ b ∈ body, b ≠ 0x7E ∧ b ≠ 0x11 ∧ b ≠ 0x13) ∧
    ∀ before after, body = before ++ 0x7D :: after →
      ∃ x after', after = x :: after' ∧ x ∈ ([0x5E, 0x5D, 0x31, 0x33] : List Byte)

/-- R152: the number of wire bytes of a frame, and its bounds for a payload that fits TX_CAP. -/
def Obligations.EncodedLengthLaw : Prop :=
  ∀ (t : Byte) (n : Half) (p : List Byte) (c : Byte),
    (enc t n p c).length
      = 1 + (([n.extractLsb' 8 8, n.extractLsb' 0 8, t] ++ p ++ [c]).map (fun b => if reserved b then 2 else 1)).sum ∧
    5 ≤ (enc t n p c).length ∧
    ∀ cfg : Config, p.length ≤ cfg.txCap → (enc t n p c).length ≤ 1 + 2 * (4 + cfg.txCap)

/-! ## Checksum -/

/-- R127: the seven checksum laws. -/
def Obligations.ChecksumLaws : Prop :=
  (∀ v : Byte, ∃ t p, chk t p = v) ∧
  (∀ t p, chk t p = 0x00 ↔ sum8 t p = 0xFF) ∧
  (∀ t p, chk t p = 0xFF ↔ sum8 t p = 0x00) ∧
  (∀ t p, sum8 t p + chk t p = 0xFF) ∧
  (∀ t l r (x y : Byte), x ≠ y → sum8 t (l ++ x :: r) ≠ sum8 t (l ++ y :: r) ∧ chk t (l ++ x :: r) ≠ chk t (l ++ y :: r)) ∧
  (∀ (t t' : Byte) p, t ≠ t' → sum8 t p ≠ sum8 t' p ∧ chk t p ≠ chk t' p) ∧
  (∀ t l m r (x y d : Byte), chk t (l ++ (x + d) :: m ++ (y - d) :: r) = chk t (l ++ x :: m ++ y :: r)) ∧
  (∀ (t d x : Byte) l r, chk (t + d) (l ++ (x - d) :: r) = chk t (l ++ x :: r)) ∧
  ∀ t (p q : List Byte), p.Perm q → chk t p = chk t q

/-! ## Building and reading the TX frame -/

/-- R111: TX_SET_TYPE writes TX_TYPE and nothing else. -/
def Obligations.TxSetTypeWritesTheType : Prop :=
  (∀ w, opField w = 0x01 → decodeCmd w = .instr (.txSetType (bField w))) ∧
  ∀ (b : Byte) (s : State), ∃ t, exec (.txSetType b) s = .next t ∧
    t.port = .responded ⟨.ok, 0⟩ ∧ t.txType = b ∧
    t.txLen = s.txLen ∧ t.txCsum = s.txCsum ∧ t.txCsv = s.txCsv ∧ (∀ i, t.txbAt i = s.txbAt i) ∧
    SameRxSide s t ∧ SameAround s t

/-- R112: TX_SET_LEN writes TX_LEN when the payload fits TX_CAP, and raises BAD_LENGTH otherwise; every TXB byte keeps its
value, the largest legal length is TX_CAP + 1, and 0 and 1 are the two lengths of an empty payload. -/
def Obligations.TxSetLenSizesThePayload : Prop :=
  (∀ w, opField w = 0x02 → decodeCmd w = .instr (.txSetLen (aField w))) ∧
  (∀ (a : Half) (s : State), (plen a).toNat ≤ s.cfg.txCap → ∃ t, exec (.txSetLen a) s = .next t ∧
    t.port = .responded ⟨.ok, 0⟩ ∧ t.txLen = a ∧
    t.txType = s.txType ∧ t.txCsum = s.txCsum ∧ t.txCsv = s.txCsv ∧ (∀ i, t.txbAt i = s.txbAt i) ∧
    SameRxSide s t ∧ SameAround s t) ∧
  (∀ (a : Half) (s : State), s.cfg.txCap < (plen a).toNat → ∃ t, exec (.txSetLen a) s = .next t ∧
    t.port = .responded ⟨.badLength, 0⟩ ∧ SameBlock s t) ∧
  (∀ (a : Half) (s : State), (plen a).toNat ≤ s.cfg.txCap ↔ a.toNat ≤ s.cfg.txCap + 1) ∧
  ∀ s : State, s.txPayload = [] ↔ s.txLen = 0x0000 ∨ s.txLen = 0x0001

/-- R113: TX_WRITE writes one TXB byte at a legal index, and raises BAD_INDEX at any other. -/
def Obligations.TxWriteStoresOneByte : Prop :=
  (∀ w, opField w = 0x03 → decodeCmd w = .instr (.txWrite (aField w) (bField w))) ∧
  (∀ (a : Half) (b : Byte) (s : State), a < plen s.txLen → ∃ t, exec (.txWrite a b) s = .next t ∧
    t.port = .responded ⟨.ok, 0⟩ ∧ t.txbAt a.toNat = b ∧ (∀ i, i ≠ a.toNat → t.txbAt i = s.txbAt i) ∧
    SameTxRegs s t ∧ SameRxSide s t ∧ SameAround s t) ∧
  ∀ (a : Half) (b : Byte) (s : State), plen s.txLen ≤ a → ∃ t, exec (.txWrite a b) s = .next t ∧
    t.port = .responded ⟨.badIndex, 0⟩ ∧ SameBlock s t

/-- R114: TX_CSUM stores and answers the checksum of the TX frame and sets TX_CSV. -/
def Obligations.TxCsumStoresTheChecksum : Prop :=
  (∀ w, opField w = 0x04 → decodeCmd w = .instr .txCsum) ∧
  ∀ s : State, ∃ t, exec .txCsum s = .next t ∧
    t.port = .responded ⟨.ok, (chk s.txType s.txPayload).setWidth 32⟩ ∧
    t.txCsum = chk s.txType s.txPayload ∧ t.txCsv = true ∧
    t.txType = s.txType ∧ t.txLen = s.txLen ∧ (∀ i, t.txbAt i = s.txbAt i) ∧ SameRxSide s t ∧ SameAround s t

/-- R115, R116, R118: the three TX register reads answer the register and change nothing; while TX_CSV = 0 the checksum
read is 0x00. -/
def Obligations.TxRegisterReadsAnswerTheRegister : Prop :=
  (∀ w, (opField w = 0x20 → decodeCmd w = .instr .txRdType) ∧ (opField w = 0x21 → decodeCmd w = .instr .txRdLen) ∧
    (opField w = 0x23 → decodeCmd w = .instr .txRdCsum)) ∧
  ∀ s : State,
    (∃ t, exec .txRdType s = .next t ∧ t.port = .responded ⟨.ok, s.txType.setWidth 32⟩ ∧ SameBlock s t) ∧
    (∃ t, exec .txRdLen s = .next t ∧ t.port = .responded ⟨.ok, s.txLen.setWidth 32⟩ ∧ SameBlock s t) ∧
    (∃ t, exec .txRdCsum s = .next t ∧ t.port = .responded ⟨.ok, s.txCsum.setWidth 32⟩ ∧ SameBlock s t ∧
      (TxInv s → s.txCsv = false → t.port = .responded ⟨.ok, 0⟩))

/-- R117: TX_RD_BYTE answers the byte at a legal index, a byte never written since reset as its reset draw, and raises
BAD_INDEX at any other index. -/
def Obligations.TxRdByteAnswersTheByte : Prop :=
  (∀ w, opField w = 0x22 → decodeCmd w = .instr (.txRdByte (aField w))) ∧
  (∀ (a : Half) (s : State), a < plen s.txLen → ∃ t, exec (.txRdByte a) s = .next t ∧
    t.port = .responded ⟨.ok, (s.txbAt a.toNat).setWidth 32⟩ ∧ SameBlock s t) ∧
  (∀ (a : Half) (s : State), plen s.txLen ≤ a → ∃ t, exec (.txRdByte a) s = .next t ∧
    t.port = .responded ⟨.badIndex, 0⟩ ∧ SameBlock s t) ∧
  ∀ (i : Nat) (s : State), s.txb.read i = none → s.txbAt i = Config.txbDraw s.draws i

/-- R119: TX_VERIFY compares with the checksum of the current contents, changes nothing, and passes for exactly one B. -/
def Obligations.TxVerifyChecksTheContents : Prop :=
  (∀ w, opField w = 0x24 → decodeCmd w = .instr (.txVerify (bField w))) ∧
  (∀ (b : Byte) (s : State), ∃ t, exec (.txVerify b) s = .next t ∧
    t.port = .responded ⟨.ok, if chk s.txType s.txPayload = b then 1 else 0⟩ ∧ SameBlock s t) ∧
  ∀ s : State, ∃! b : Byte, ∃ t, exec (.txVerify b) s = .next t ∧ t.port = .responded ⟨.ok, 1⟩

/-! ## Reading the RX frame and the status words -/

/-- R120, R121, R123: the three RX register reads answer the register and change nothing; before the byte in question has
arrived the type and the checksum are 0x00, and so are the low length bits. -/
def Obligations.RxRegisterReadsAnswerTheRegister : Prop :=
  (∀ w, (opField w = 0x30 → decodeCmd w = .instr .rxRdType) ∧ (opField w = 0x31 → decodeCmd w = .instr .rxRdLen) ∧
    (opField w = 0x33 → decodeCmd w = .instr .rxRdCsum)) ∧
  (∀ s : State,
    (∃ t, exec .rxRdType s = .next t ∧ t.port = .responded ⟨.ok, s.rxType.setWidth 32⟩ ∧ SameBlock s t) ∧
    (∃ t, exec .rxRdLen s = .next t ∧ t.port = .responded ⟨.ok, s.rxLen.setWidth 32⟩ ∧ SameBlock s t) ∧
    (∃ t, exec .rxRdCsum s = .next t ∧ t.port = .responded ⟨.ok, s.rxCsum.setWidth 32⟩ ∧ SameBlock s t)) ∧
  ∀ s : State, RxInv s →
    (s.decSt ≠ .payload → s.rxType = 0x00) ∧
    (s.decSt = .lenLsb → s.rxLen.extractLsb' 0 8 = 0x00) ∧
    (s.rxStat ≠ .ready → s.rxErr ≠ .checksumFailure → s.rxCsum = 0x00)

/-- R122: RX_RD_BYTE answers the byte at an index below DEC_CNT in any status, and raises BAD_INDEX at any other; for a Ready
frame DEC_CNT is the payload length, and after Clear no index is legal. -/
def Obligations.RxRdByteAnswersTheByte : Prop :=
  (∀ w, opField w = 0x32 → decodeCmd w = .instr (.rxRdByte (aField w))) ∧
  (∀ (a : Half) (s : State), a < s.decCnt → ∃ t, exec (.rxRdByte a) s = .next t ∧
    t.port = .responded ⟨.ok, (s.rxbAt a.toNat).setWidth 32⟩ ∧ SameBlock s t) ∧
  (∀ (a : Half) (s : State), s.decCnt ≤ a → ∃ t, exec (.rxRdByte a) s = .next t ∧
    t.port = .responded ⟨.badIndex, 0⟩ ∧ SameBlock s t) ∧
  (∀ s : State, RxInv s → s.rxStat = .ready → s.decCnt = plen s.rxLen) ∧
  ∀ (a : Half) (s : State), ∃ t, exec (.rxRdByte a) s.clear = .next t ∧ t.port = .responded ⟨.badIndex, 0⟩

/-- R124: RX_VERIFY sums the DEC_CNT bytes stored and changes nothing; the received checksum passes for a Ready frame and
fails for a ChecksumFailure frame. -/
def Obligations.RxVerifyChecksTheStoredBytes : Prop :=
  (∀ w, opField w = 0x34 → decodeCmd w = .instr (.rxVerify (bField w))) ∧
  (∀ (b : Byte) (s : State), ∃ t, exec (.rxVerify b) s = .next t ∧
    t.port = .responded ⟨.ok, if chk s.rxType ((List.range s.decCnt.toNat).map s.rxbAt) = b then 1 else 0⟩ ∧ SameBlock s t) ∧
  ∀ s : State, RxInv s →
    (s.rxStat = .ready → chk s.rxType s.rxPayload = s.rxCsum) ∧
    (s.rxErr = .checksumFailure → chk s.rxType s.rxPayload ≠ s.rxCsum)

/-- R125, R126, R38, R39: the two status reads answer the status words, field by field, and change nothing. Each named value of
RX_STAT, RX_ERR and DEC_ST reads as the number that R31, R32 and R34 give it. -/
def Obligations.StatusReadsAnswerTheFields : Prop :=
  (∀ w, (opField w = 0x11 → decodeCmd w = .instr .rdStatus) ∧ (opField w = 0x12 → decodeCmd w = .instr .rdTxstat)) ∧
  ∀ s : State,
    (∃ t v, exec .rdStatus s = .next t ∧ t.port = .responded ⟨.ok, v⟩ ∧ SameBlock s t ∧
      (s.rxStat = .pending ↔ v.extractLsb' 0 2 = 0) ∧ (s.rxStat = .ready ↔ v.extractLsb' 0 2 = 1) ∧
      (s.rxStat = .errored ↔ v.extractLsb' 0 2 = 2) ∧
      (s.rxErr = .noError ↔ v.extractLsb' 2 2 = 0) ∧ (s.rxErr = .checksumFailure ↔ v.extractLsb' 2 2 = 1) ∧
      (s.rxErr = .bufferCapacityExceeded ↔ v.extractLsb' 2 2 = 2) ∧ (s.rxErr = .unexpectedStart ↔ v.extractLsb' 2 2 = 3) ∧
      (s.decSt = .awaitStart ↔ v.extractLsb' 4 3 = 0) ∧ (s.decSt = .lenMsb ↔ v.extractLsb' 4 3 = 1) ∧
      (s.decSt = .lenLsb ↔ v.extractLsb' 4 3 = 2) ∧ (s.decSt = .frameType ↔ v.extractLsb' 4 3 = 3) ∧
      (s.decSt = .payload ↔ v.extractLsb' 4 3 = 4) ∧
      v.extractLsb' 7 1 = BitVec.ofBool s.decEsc ∧ v.extractLsb' 8 8 = s.decAcc ∧ v.extractLsb' 16 16 = s.decCnt ∧
      (statusIsReady v = true ↔ s.rxStat = .ready) ∧ (statusHasError v = true ↔ s.rxStat = .errored) ∧
      statusErrorKind v = v.extractLsb' 2 2) ∧
    ∃ t v, exec .rdTxstat s = .next t ∧ t.port = .responded ⟨.ok, v⟩ ∧ SameBlock s t ∧
      v.extractLsb' 0 1 = BitVec.ofBool s.txCsv ∧ v.extractLsb' 1 31 = 0

/-! ## Encoder and flush -/

/-- R150, R151: ENCODE computes the checksum only while TX_CSV = 0, writes the wire bytes of the frame to the sink in order, and
then responds with their number; nothing else changes, so it can be encoded again. That the writes take one step each and the
response one more is the model's reading (log entry 14). -/
def Obligations.EncodeWritesTheFrame : Prop :=
  (∀ w, opField w = 0x05 → decodeCmd w = .instr .encode) ∧
  ∀ s : State, OnlyBlock s → s.resetPending = false →
    ∃ t u wire, exec .encode s = .next t ∧
      wire = [0x7E] ++ esc (s.txLen.extractLsb' 8 8) ++ esc (s.txLen.extractLsb' 0 8) ++ esc s.txType ++
        s.txPayload.flatMap esc ++ esc (if s.txCsv then s.txCsum else chk s.txType s.txPayload) ∧
      run (wire.length + 1) t = .next u ∧
      u.port = .responded ⟨.ok, BitVec.ofNat 32 wire.length⟩ ∧
      u.snk = s.snk ++ wire ∧
      u.txCsum = (if s.txCsv then s.txCsum else chk s.txType s.txPayload) ∧ u.txCsv = true ∧
      u.txType = s.txType ∧ u.txLen = s.txLen ∧ (∀ i, u.txbAt i = s.txbAt i) ∧ SameRxSide s u ∧
      u.src = s.src ∧ u.link = s.link ∧ u.flushCalls = s.flushCalls ∧ SameRest s u

/-- R155, R7: FLUSH calls flush() once, whatever SNK holds, and changes no block register; every byte of SNK stays in order,
delivered or queued, and with SINK_FLUSH_DELIVERS all of it has been delivered when FLUSH responds. -/
def Obligations.FlushAsksTheSink : Prop :=
  (∀ w, opField w = 0x06 → decodeCmd w = .instr .flush) ∧
  ∀ s : State, ∃ t, exec .flush s = .next t ∧ t.port = .responded ⟨.ok, 0⟩ ∧
    t.flushCalls = s.flushCalls + 1 ∧ t.link ++ t.snk = s.link ++ s.snk ∧
    (s.cfg.sinkFlushDelivers = true → t.snk = []) ∧
    t.src = s.src ∧ SameTx s t ∧ SameRxSide s t ∧ SameRest s t

/-! ## DECODE -/

/-- R170, R171, R186: DECODE Clears a terminal frame, leaves a Pending one as it is, and enters its loop; RXB, the TX frame,
the source and the sink are not touched. -/
def Obligations.DecodeClearsOnlyATerminalFrame : Prop :=
  (∀ w, opField w = 0x10 → decodeCmd w = .instr .decode) ∧
  ∀ s : State, ∃ t, exec .decode s = .next t ∧ t.port = .decoding ∧
    (s.rxStat = .pending → SameRxSide s t) ∧
    (s.rxStat ≠ .pending →
      t.decSt = .awaitStart ∧ t.decEsc = false ∧ t.decAcc = 0x00 ∧ t.decCnt = 0x0000 ∧ t.rxType = 0x00 ∧
      t.rxLen = 0x0000 ∧ t.rxCsum = 0x00 ∧ t.rxStat = .pending ∧ t.rxErr = .noError) ∧
    (∀ i, t.rxbAt i = s.rxbAt i) ∧ SameTx s t ∧ SameAround s t

/-- R170: DECODE with no byte arriving meanwhile. A terminal frame is Cleared first; every byte read is given to one byte step,
in order; reading stops right after the byte that ends a frame, or when SRC is empty, and not before; later bytes stay in
SRC; the response is OK with STATUS. -/
def Obligations.DecodeConsumesUpToOneFrame : Prop :=
  (∀ w, opField w = 0x10 → decodeCmd w = .instr .decode) ∧
  ∀ s : State, OnlyBlock s → s.resetPending = false →
    ∃ u k t read, exec .decode s = .next u ∧ run k u = .next t ∧ s.src = read ++ t.src ∧
      t = { (if s.rxStat = .pending then s else s.clear).rxBytes read with
            src := t.src, port := .responded ⟨.ok, t.status⟩ } ∧
      (t.rxStat ≠ .pending ∨ t.src = []) ∧
      ∀ before after, read = before ++ after → after ≠ [] →
        ((if s.rxStat = .pending then s else s.clear).rxBytes before).rxStat = .pending

/-- R187, R65: whatever bytes arrive between the block's turns, the registers are those of the bytes read so far given to the
byte step in SRC order, and no byte is lost. -/
def Obligations.ArrivalPatternDoesNotMatter : Prop :=
  ∀ s : State, s.port = .decoding → s.resetPending = false → OnlyArrivals s.sched →
    ∃ t read, run s.sched.length s = .next t ∧ s.src ++ arrivals s.sched = read ++ t.src ∧
      t = { s.rxBytes read with src := t.src, port := t.port, sched := [] } ∧
      (t.port = .decoding ∨ t.port = .responded ⟨.ok, t.status⟩) ∧
      ∀ before after, read = before ++ after → after ≠ [] → (s.rxBytes before).rxStat = .pending

/-- R187: bytes that arrive for two DECODEs, the first of which ends in the middle of the frame, leave the same state as the
same bytes read by one DECODE. -/
def Obligations.SplitArrivalGivesTheSameFrame : Prop :=
  ∀ (s t t1 u t2 : State) (a b : List Byte) (k k1 k2 : Nat) (v v1 v2 : Response),
    s.port = .decoding → OnlyBlock s → s.resetPending = false →
    run k { s with src := a ++ b } = .next t → t.port = .responded v →
    run k1 { s with src := a } = .next t1 → t1.port = .responded v1 → t1.rxStat = .pending →
    exec .decode { t1 with src := b } = .next u → run k2 u = .next t2 → t2.port = .responded v2 →
    t2 = t

/-- R253, R170, C8: DECODE does not end while SRC holds a byte and the frame is Pending, whoever moves, and each turn of the block
reads a byte; under a source that brings a byte other than 7E before every turn, a hunting DECODE never responds; and any other
command responds once the block has had the turns it needs, whatever the environments and the reset input do in between. The
number of turns counts one for ENCODE's start, one for each SinkWrite and one for the response, which is the model's reading (log
entry 14); the endless arrivals are a cycle of the model's `later` (log entry 25). -/
def Obligations.DecodeDoesNotEndEarly : Prop :=
  (∀ s t : State, s.port = .decoding → s.src ≠ [] → s.rxStat = .pending → step s = .next t → t.port = .decoding) ∧
  (∀ s u : State, s.port = .decoding → s.src ≠ [] → s.rxStat = .pending → BlockMoves s u →
    ∃ t, step s = .next t ∧ t.port = .decoding ∧ t.src.length < s.src.length) ∧
  (∀ (s : State) (b : Byte), s.port = .decoding → s.rxStat = .pending → s.decSt = .awaitStart → 0x7E ∉ s.src → b ≠ 0x7E →
    s.sched = [] → s.later = .cycle [.arrive b, .turn] →
    ∀ k, ∃ t, run k s = .next t ∧ t.port = .decoding ∧ t.rxStat = .pending) ∧
  ∀ (s : State) (w : Word), s.port = .issued w → opField w ≠ 0x10 → (plen s.txLen).toNat ≤ s.cfg.txCap →
    (∀ c, Event.command c ∉ s.sched) → 3 + 2 * (4 + s.cfg.txCap) ≤ turns s.sched →
    ∃ k t r, k ≤ s.sched.length ∧ run k s = .next t ∧ t.port = .responded r

/-- R173, R174: WIRE_START begins a frame while hunting, and in any other state, escape pending or not, ends the frame with
UnexpectedStart, every other register as it was. -/
def Obligations.WireStartBeginsOrAborts : Prop :=
  ∀ s : State, s.rxStat = .pending →
    (s.decSt = .awaitStart → ∃ t, exec .wireStart s = .next t ∧ t.decSt = .lenMsb ∧
      t.decEsc = s.decEsc ∧ t.decAcc = s.decAcc ∧ t.decCnt = s.decCnt ∧ SameRx s t ∧ SameTx s t ∧ SameAround s t ∧
      t.port = s.port) ∧
    (s.decSt ≠ .awaitStart → ∃ t, exec .wireStart s = .next t ∧ t.rxStat = .errored ∧ t.rxErr = .unexpectedStart ∧
      t.rxType = s.rxType ∧ t.rxLen = s.rxLen ∧ t.rxCsum = s.rxCsum ∧ (∀ i, t.rxbAt i = s.rxbAt i) ∧ SameDec s t ∧
      SameTx s t ∧ SameAround s t ∧ t.port = s.port)

/-- R85, R175, R176: inside a frame an escape pair is the data symbol of the byte it stands for, as that byte alone would be
where it is not reserved; while hunting the pair is discarded. -/
def Obligations.EscapePairsStandForTheirByte : Prop :=
  ∀ s : State, s.rxStat = .pending → s.decEsc = false →
    (s.decSt ≠ .awaitStart →
      exec .wireEsc7E s = .next (s.dataSymbol 0x7E) ∧ exec .wireEsc7D s = .next (s.dataSymbol 0x7D) ∧
      exec .wireEsc11 s = .next (s.dataSymbol 0x11) ∧ exec .wireEsc13 s = .next (s.dataSymbol 0x13) ∧
      (∀ x, (Instr.wireEscOther x).wf = true → exec (.wireEscOther x) s = .next (s.dataSymbol (x ^^^ 0x20))) ∧
      ∀ b, (Instr.wireData b).wf = true → exec (.wireData b) s = .next (s.dataSymbol b)) ∧
    (s.decSt = .awaitStart →
      exec .wireEsc7E s = .next s ∧ exec .wireEsc7D s = .next s ∧ exec .wireEsc11 s = .next s ∧
      exec .wireEsc13 s = .next s ∧
      (∀ x, (Instr.wireEscOther x).wf = true → exec (.wireEscOther x) s = .next s) ∧
      ∀ b, (Instr.wireData b).wf = true → exec (.wireData b) s = .next s)

/-- R176: inside a frame every raw byte but 7E, and but 7D with no escape pending, is a data symbol: with an escape pending its
byte is the raw byte ^ 0x20, 7D included, and the escape is no longer pending; otherwise it is the raw byte. That exec of a pair
symbol with an escape pending runs its second byte alone is the model's reading (log entry 16). -/
def Obligations.PendingEscapeTakesTheNextByte : Prop :=
  ∀ (s : State) (x : Byte), s.rxStat = .pending → s.decSt ≠ .awaitStart → x ≠ 0x7E →
    (s.decEsc = true →
      s.rxByte x = State.dataSymbol { s with decEsc := false } (x ^^^ 0x20) ∧
      exec (escSymbol x) s = .next (State.dataSymbol { s with decEsc := false } (x ^^^ 0x20))) ∧
    (s.decEsc = false → x ≠ 0x7D →
      s.rxByte x = s.dataSymbol x ∧ exec (.wireData x) s = .next (s.dataSymbol x))

/-- Once a frame has ended, a wire symbol changes nothing until Clear (R185, 60_exceptions.md R218; the model's choice for a
case that DECODE's loop never meets, log entry 15). -/
def Obligations.EndedFrameTakesNoSymbol : Prop :=
  ∀ (s : State) (i : Instr), s.rxStat ≠ .pending → i.isCommand = false → exec i s = .next s

/-- R177, R178, R179: the two length bytes, most significant first, and the type byte, for every byte value, each sent as the
encoder sends it. -/
def Obligations.HeaderBytesFillLengthAndType : Prop :=
  ∀ (s : State) (b : Byte), s.rxStat = .pending → s.decEsc = false →
    (s.decSt = .lenMsb →
      exec (symbolOf b) s = .next { s with rxLen := b ++ s.rxLen.extractLsb' 0 8, decSt := .lenLsb }) ∧
    (s.decSt = .lenLsb →
      exec (symbolOf b) s = .next { s with rxLen := s.rxLen.extractLsb' 8 8 ++ b, decSt := .frameType }) ∧
    (s.decSt = .frameType →
      exec (symbolOf b) s = .next { s with rxType := b, decAcc := s.decAcc + b, decCnt := 0, decSt := .payload })

/-- R180, R182, R183: a payload byte is stored at DEC_CNT, summed and counted; when the buffer is full and the payload is not
complete the frame ends with BufferCapacityExceeded and the byte is dropped; with the payload complete the byte is the checksum,
whatever room is left. -/
def Obligations.PayloadBytesAreStoredOrOverflow : Prop :=
  ∀ (s : State) (b : Byte), s.rxStat = .pending → s.decEsc = false → s.decSt = .payload →
    (s.decCnt = plen s.rxLen → exec (symbolOf b) s = .next (s.checksum b)) ∧
    (s.decCnt ≠ plen s.rxLen → s.decCnt.toNat ≠ s.cfg.rxCap → ∃ t, exec (symbolOf b) s = .next t ∧ t.rxbAt s.decCnt.toNat = b ∧
      (∀ i, i ≠ s.decCnt.toNat → t.rxbAt i = s.rxbAt i) ∧ t.decAcc = s.decAcc + b ∧ t.decCnt = s.decCnt + 1 ∧
      t.decSt = s.decSt ∧ t.decEsc = false ∧ t.rxStat = .pending ∧ t.rxErr = s.rxErr ∧ t.rxType = s.rxType ∧
      t.rxLen = s.rxLen ∧ t.rxCsum = s.rxCsum ∧ SameTx s t ∧ SameAround s t ∧ t.port = s.port) ∧
    (s.decCnt ≠ plen s.rxLen → s.decCnt.toNat = s.cfg.rxCap → ∃ t, exec (symbolOf b) s = .next t ∧ t.rxStat = .errored ∧
      t.rxErr = .bufferCapacityExceeded ∧ t.rxType = s.rxType ∧ t.rxLen = s.rxLen ∧ t.rxCsum = s.rxCsum ∧
      (∀ i, t.rxbAt i = s.rxbAt i) ∧ SameDec s t ∧ SameTx s t ∧ SameAround s t ∧ t.port = s.port)

/-- R184: the byte after the payload is the checksum; it is stored and summed, and the frame is Ready exactly when the sum is
0xFF, which is when the byte is the checksum of the type and the bytes stored; otherwise it is ChecksumFailure. -/
def Obligations.ChecksumByteEndsTheFrame : Prop :=
  ∀ (s : State) (b : Byte), s.rxStat = .pending → s.decEsc = false → s.decSt = .payload → s.decCnt = plen s.rxLen →
    ∃ t, exec (symbolOf b) s = .next t ∧ t.rxCsum = b ∧ t.decAcc = s.decAcc + b ∧
      (s.decAcc + b = 0xFF → t.rxStat = .ready ∧ t.rxErr = .noError) ∧
      (s.decAcc + b ≠ 0xFF → t.rxStat = .errored ∧ t.rxErr = .checksumFailure) ∧
      (RxInv s → s.decAcc = sum8 s.rxType s.rxPayload ∧ (t.rxStat = .ready ↔ b = chk s.rxType s.rxPayload)) ∧
      t.decCnt = s.decCnt ∧ t.decSt = s.decSt ∧ t.decEsc = false ∧ t.rxType = s.rxType ∧ t.rxLen = s.rxLen ∧
      (∀ i, t.rxbAt i = s.rxbAt i) ∧ SameTx s t ∧ SameAround s t ∧ t.port = s.port

/-- R175: an escape byte inside a frame, none being pending, sets DEC_ESC and nothing else. That a turn of the block takes it in
alone where no data byte follows it in SRC is the model's reading (log entry 2). -/
def Obligations.EscapeByteSetsDecEsc : Prop :=
  (∀ s : State, s.rxStat = .pending → s.decSt ≠ .awaitStart → s.decEsc = false →
    s.rxByte 0x7D = { s with decEsc := true }) ∧
  ∀ (s u : State) (rest : List Byte), s.port = .decoding → BlockMoves s u → s.rxStat = .pending → s.decSt ≠ .awaitStart →
    s.decEsc = false → s.src = 0x7D :: rest → (rest = [] ∨ ∃ rest', rest = 0x7E :: rest') →
    step s = .next { u with src := rest, decEsc := true }

/-- R185, 60_exceptions.md R218: once a frame has ended, no step changes the RX frame or the decoder but the block's turn that
begins a DECODE command, or a reset. -/
def Obligations.TerminalFrameIsKept : Prop :=
  ∀ s t : State, s.rxStat ≠ .pending → step s = .next t →
    SameRxSide s t ∨ s.resetDue = true ∨ (∃ u, s.nextMove = (.reset, u)) ∨
      ∃ w u, s.port = .issued w ∧ opField w = 0x10 ∧ BlockMoves s u

/-! ## The machine -/

/-- A step runs the instruction a command word decodes to on the block's turn: the turn may be scheduled, stand in the cycle, or
come because nobody else moves. -/
def Obligations.StepRunsTheIssuedCommand : Prop :=
  ∀ (s : State) (w : Word) (i : Instr), s.port = .issued w → decodeCmd w = .instr i →
    (OnlyBlock s → step s = exec i s) ∧
    (∀ rest, s.sched = .turn :: rest → step s = exec i { s with sched := rest }) ∧
    (∀ rest, s.sched = [] → s.later = .cycle (.turn :: rest) → step s = exec i { s with sched := rest }) ∧
    ∀ u, BlockMoves s u → step s = exec i u

/-- A step of DECODE's loop runs the symbol at the head of SRC, its bytes having left SRC. That one step runs a whole symbol, a
pair included, is the model's reading of R172's byte steps (log entry 2). -/
def Obligations.StepRunsTheWireSymbol : Prop :=
  ∀ (s : State) (i : Instr) (left : List Byte), s.port = .decoding → s.rxStat = .pending →
    decodeWire s.decEsc s.src = .instr (i, left) →
    (OnlyBlock s → step s = exec i { s with src := left }) ∧
    (∀ rest, s.sched = .turn :: rest → step s = exec i { s with src := left, sched := rest }) ∧
    (∀ rest, s.sched = [] → s.later = .cycle (.turn :: rest) → step s = exec i { s with src := left, sched := rest }) ∧
    ∀ u, BlockMoves s u → step s = exec i { u with src := left }

/-- R94, R252: a command is latched when none is executing, and has no step before the previous response. -/
def Obligations.CommandsAreIssuedOneAtATime : Prop :=
  ∀ (s u : State) (w : Word), s.nextMove = (.command w, u) → s.resetPending = false →
    ((s.port = .idle ∨ ∃ r, s.port = .responded r) → step s = .next { u with port := .issued w }) ∧
    ((s.port = .decoding ∨ (∃ w', s.port = .issued w') ∨ ∃ todo n, s.port = .encoding todo n) →
      step s = .fault .commandBeforeResponse)

/-- R58, R62: the source environment appends to SRC's tail, the sink environment takes SNK's head, in any state of the block,
and neither touches anything else; `u` differs from the state in the schedule only. -/
def Obligations.EnvironmentsMoveOnlyTheQueues : Prop :=
  ∀ s u : State, s.resetDue = false →
    (∀ b, s.nextMove = (.arrive b, u) → step s = .next { u with src := s.src ++ [b] }) ∧
    (∀ b more, s.nextMove = (.drain, u) → s.snk = b :: more → step s = .next { u with snk := more, link := s.link ++ [b] }) ∧
    (s.nextMove = (.drain, u) → s.snk = [] → step s = .next u) ∧
    (∀ e, s.nextMove = (e, u) → u = { s with sched := u.sched, later := u.later })

/-- R240, R242: reset between commands gives every register its reset value, reads every buffer byte as a new draw, and leaves
SRC and SNK as they are. The draw as a free value of a reset counter is log entry 4; that the delivered bytes and the count of
flush() calls stay is log entry 9. -/
def Obligations.ResetWritesTheResetValues : Prop :=
  ∀ s u : State, s.nextMove = (.reset, u) → s.resetPending = false →
    (s.port = .idle ∨ ∃ r, s.port = .responded r) →
    ∃ t, step s = .next t ∧
      t.txType = 0x00 ∧ t.txLen = 0x0000 ∧ t.txCsum = 0x00 ∧ t.txCsv = false ∧
      (∀ i, t.txbAt i = Config.txbDraw t.draws i) ∧ t.draws = s.draws + 1 ∧
      t.rxType = 0x00 ∧ t.rxLen = 0x0000 ∧ t.rxCsum = 0x00 ∧ t.rxStat = .pending ∧ t.rxErr = .noError ∧
      t.decSt = .awaitStart ∧ t.decEsc = false ∧ t.decAcc = 0x00 ∧ t.decCnt = 0x0000 ∧
      t.status = 0 ∧ t.txstat = 0 ∧ SameLink s t ∧ t.cfg = s.cfg ∧ t.sched = u.sched ∧ t.later = u.later

/-- R241: reset asserted while a command executes changes nothing yet, and is applied before anything else once the response
is there. -/
def Obligations.ResetWaitsForTheResponse : Prop :=
  ∀ s : State,
    (∀ u, s.nextMove = (.reset, u) →
      (s.port = .decoding ∨ (∃ w, s.port = .issued w) ∨ ∃ todo n, s.port = .encoding todo n) →
      step s = .next { u with resetPending := true }) ∧
    (∀ r, s.resetPending = true → s.port = .responded r → step s = .next s.applyReset ∧ s.applyReset.port = s.port)

/-- R240, R241: the state after the power-up reset. -/
def Obligations.PowerUpStateHoldsTheResetValues : Prop :=
  let s := State.reset
  s.txType = 0x00 ∧ s.txLen = 0x0000 ∧ s.txCsum = 0x00 ∧ s.txCsv = false ∧ s.rxType = 0x00 ∧ s.rxLen = 0x0000 ∧
    s.rxCsum = 0x00 ∧ s.rxStat = .pending ∧ s.rxErr = .noError ∧ s.decSt = .awaitStart ∧ s.decEsc = false ∧
    s.decAcc = 0x00 ∧ s.decCnt = 0x0000 ∧ s.status = 0 ∧ s.txstat = 0 ∧
    1 ≤ s.cfg.rxCap ∧ s.cfg.rxCap ≤ 65534 ∧ 1 ≤ s.cfg.txCap ∧ s.cfg.txCap ≤ 65534

/-- R211, R213: a command that answers an error changed nothing, answers 0, and is one of the four that can, each with its
own code. -/
def Obligations.CommandErrorsArePrecise : Prop :=
  ∀ (i : Instr) (s t : State) (r : Response), i.isCommand = true → exec i s = .next t → t.port = .responded r → r.rc ≠ .ok →
    r.val = 0 ∧ SameBlock s t ∧
      ((∃ a, i = .txSetLen a ∧ r.rc = .badLength) ∨ (∃ a b, i = .txWrite a b ∧ r.rc = .badIndex) ∨
        (∃ a, i = .txRdByte a ∧ r.rc = .badIndex) ∨ ∃ a, i = .rxRdByte a ∧ r.rc = .badIndex)

/-- R40, R50, R56: which instructions touch which frame. Only TX_SET_TYPE, TX_SET_LEN, TX_WRITE, TX_CSUM and ENCODE change the
TX frame, only DECODE and the wire symbols change the RX frame or the decoder, and only FLUSH changes the sink in its own
step: that exec of ENCODE leaves the writes to the steps after it is the model's reading (log entry 14). -/
def Obligations.FramesAreKeptApart : Prop :=
  ∀ (i : Instr) (s t : State), exec i s = .next t →
    ((∀ b, i ≠ .txSetType b) → (∀ a, i ≠ .txSetLen a) → (∀ a b, i ≠ .txWrite a b) → i ≠ .txCsum → i ≠ .encode → SameTx s t) ∧
    (i.isCommand = true → i ≠ .decode → SameRxSide s t) ∧
    (i ≠ .flush → SameLink s t) ∧
    SameRest s t

/-- R61, R64: only DECODE reads the source, and only ENCODE and FLUSH act on the sink: a turn of the block with any other
command on the port leaves the queues alone, DECODE leaves the sink alone, and ENCODE the source. -/
def Obligations.OnlyDecodeReadsAndOnlyEncodeWrites : Prop :=
  ∀ s u t : State, BlockMoves s u → step s = .next t →
    (s.port ≠ .decoding → t.src = s.src) ∧
    ((∀ todo n, s.port ≠ .encoding todo n) → (∀ w, s.port = .issued w → opField w ≠ 0x06) →
      t.snk = s.snk ∧ t.link = s.link ∧ t.flushCalls = s.flushCalls) ∧
    (∀ todo n, s.port = .encoding todo n → t.link = s.link ∧ t.flushCalls = s.flushCalls ∧ t.snk = s.snk ++ todo.take 1)

/-- No instruction and no step refuses, every instruction completes in every state, and the only stop of the machine is a
command before the previous response (R154, R210, R252). -/
def Obligations.OnlyAnEarlyCommandStops : Prop :=
  (∀ (i : Instr) (s : State), ∃ t, exec i s = .next t) ∧
  ∀ s : State, (∃ t, step s = .next t) ∨
    (step s = .fault .commandBeforeResponse ∧ ∃ w u, s.nextMove = (.command w, u) ∧ s.port.accepts = false)

/-- R26: TX_CSUM and ENCODE set TX_CSV, no other step does, and only reset clears it. -/
def Obligations.ChecksumSetFlagIsClearedByResetOnly : Prop :=
  (∀ s : State, ∃ t, exec .txCsum s = .next t ∧ t.txCsv = true) ∧
  (∀ s : State, ∃ t, exec .encode s = .next t ∧ t.txCsv = true) ∧
  ∀ s t : State, step s = .next t →
    (s.txCsv = true → t.txCsv = false → s.resetDue = true ∨ ∃ u, s.nextMove = (.reset, u)) ∧
    (s.txCsv = false → t.txCsv = true →
      ∃ w u, s.port = .issued w ∧ (opField w = 0x04 ∨ opField w = 0x05) ∧ BlockMoves s u)

/-- R8, R5, R6: no step changes a parameter, and only reset draws the buffers anew (R24). -/
def Obligations.ParametersAreFixed : Prop :=
  ∀ s t : State, step s = .next t →
    t.cfg = s.cfg ∧ (t.draws ≠ s.draws → s.resetDue = true ∨ ∃ u, s.nextMove = (.reset, u))

/-- Every step keeps the invariant: canonical buffers that fit, plen(TX_LEN) ≤ TX_CAP (R23), the RX frame's and the decoder's
relations (R33, R37, R184). -/
def Obligations.EveryStepKeepsTheInvariant : Prop :=
  ∀ s t : State, CodecInv s → step s = .next t → CodecInv t

/-- The invariant holds after reset. -/
def Obligations.ResetMeetsTheInvariant : Prop := CodecInv State.reset

/-- R33: what Ready means, and that no error code stands without Errored. -/
def Obligations.ReadyMeansTheCheckPassed : Prop :=
  ∀ s : State, CodecInv s →
    (s.rxErr = .noError ↔ s.rxStat ≠ .errored) ∧
    (s.rxStat = .ready → s.decAcc = 0xFF ∧ s.rxCsum = chk s.rxType s.rxPayload ∧ s.decCnt = plen s.rxLen) ∧
    s.decCnt.toNat ≤ s.cfg.rxCap

/-! ## Whole frames -/

/-- R158: a frame with a fresh checksum, sent by one block's TX side and read whole by a block hunting for a frame, arrives
as it was sent, and exactly its bytes are read. -/
def Obligations.RoundTripGivesTheFrameBack : Prop :=
  ∀ (s r : State) (rest : List Byte), s.txCsum = chk s.txType s.txPayload → (plen s.txLen).toNat ≤ r.cfg.rxCap →
    RxInv r → r.rxStat = .pending → r.decSt = .awaitStart →
    r.port = .decoding → OnlyBlock r → r.resetPending = false → r.src = s.txWire ++ rest →
    ∃ k t, run k r = .next t ∧ t.port = .responded ⟨.ok, t.status⟩ ∧ t.src = rest ∧
      t.rxStat = .ready ∧ t.rxErr = .noError ∧ t.rxType = s.txType ∧ t.rxLen = s.txLen ∧ t.rxPayload = s.txPayload ∧
      t.rxCsum = s.txCsum ∧ t.decCnt = plen s.txLen

/-- R158, R183: a frame whose payload is longer than RX_CAP ends in BufferCapacityExceeded at its (RX_CAP+1)-th payload byte and
not before, with the first RX_CAP payload bytes stored. That the bytes after it, given to the ended frame, change nothing is the
model's choice (log entry 15); DECODE leaves them in SRC. -/
def Obligations.OversizeFrameOverflows : Prop :=
  ∀ (r : State) (t c : Byte) (n : Half) (p : List Byte), p.length = (plen n).toNat → r.cfg.rxCap < p.length →
    RxInv r → r.rxStat = .pending → r.decSt = .awaitStart →
    let head := startByte :: escAll ([n.extractLsb' 8 8, n.extractLsb' 0 8, t] ++ p.take (r.cfg.rxCap + 1))
    let e := r.rxBytes head
    e.rxStat = .errored ∧ e.rxErr = .bufferCapacityExceeded ∧ e.rxLen = n ∧ e.rxType = t ∧
      e.decCnt.toNat = r.cfg.rxCap ∧ e.rxPayload = p.take r.cfg.rxCap ∧
      (∀ before after, head = before ++ after → after ≠ [] → (r.rxBytes before).rxStat = .pending) ∧
      (∃ tail, enc t n p c = head ++ tail) ∧ r.rxBytes (enc t n p c) = e

/-- R190: one raw payload byte that is not escaped, changed to another value. A value other than 7E and 7D makes the frame end
in ChecksumFailure at its last byte; 7E makes it end in UnexpectedStart at that byte. -/
def Obligations.CorruptedPayloadByteIsDetected : Prop :=
  ∀ (r : State) (t b x : Byte) (n : Half) (p q : List Byte), (p ++ b :: q).length = (plen n).toNat →
    (p ++ b :: q).length ≤ r.cfg.rxCap → RxInv r → r.rxStat = .pending → r.decSt = .awaitStart →
    reserved b = false → x ≠ b →
    let head := startByte :: escAll ([n.extractLsb' 8 8, n.extractLsb' 0 8, t] ++ p)
    let tail := escAll (q ++ [chk t (p ++ b :: q)])
    enc t n (p ++ b :: q) (chk t (p ++ b :: q)) = head ++ [b] ++ tail ∧
    (x ≠ 0x7E → x ≠ 0x7D →
      (r.rxBytes (head ++ [x] ++ tail)).rxStat = .errored ∧
      (r.rxBytes (head ++ [x] ++ tail)).rxErr = .checksumFailure ∧
      ∀ before after, head ++ [x] ++ tail = before ++ after → after ≠ [] → (r.rxBytes before).rxStat = .pending) ∧
    (x = 0x7E → (r.rxBytes (head ++ [x])).rxStat = .errored ∧ (r.rxBytes (head ++ [x])).rxErr = .unexpectedStart)

/-- R189: after any ended frame the next DECODE skips bytes that are no START and receives the next whole frame. -/
def Obligations.DecoderResynchronises : Prop :=
  ∀ (s : State) (skipped : List Byte) (t : Byte) (n : Half) (p : List Byte), s.rxStat ≠ .pending →
    0x7E ∉ skipped → p.length = (plen n).toNat → p.length ≤ s.cfg.rxCap →
    ∃ u, exec .decode s = .next u ∧
      (u.rxBytes (skipped ++ enc t n p (chk t p))).rxStat = .ready ∧
      (u.rxBytes (skipped ++ enc t n p (chk t p))).rxType = t ∧
      (u.rxBytes (skipped ++ enc t n p (chk t p))).rxLen = n ∧
      (u.rxBytes (skipped ++ enc t n p (chk t p))).rxPayload = p

/-- R246, R190: a payload byte changed after TX_CSUM with no new TX_CSUM goes out with the stale checksum, and its receiver
reports ChecksumFailure. What goes out is read as the bytes that ENCODE's own step leaves on the port to be written, which is the
model's reading (log entry 14). -/
def Obligations.StaleChecksumIsDetected : Prop :=
  ∀ (s s1 s2 r : State) (a : Half) (b : Byte), s.txCsv = true → s.txCsum = chk s.txType s.txPayload → a < plen s.txLen →
    s.txbAt a.toNat ≠ b → exec (.txWrite a b) s = .next s1 → exec .encode s1 = .next s2 →
    (plen s.txLen).toNat ≤ r.cfg.rxCap → RxInv r → r.rxStat = .pending → r.decSt = .awaitStart →
    ∃ wire, s2.port = .encoding wire wire.length ∧ s2.txCsum = s.txCsum ∧
      (r.rxBytes wire).rxStat = .errored ∧ (r.rxBytes wire).rxErr = .checksumFailure ∧
      (r.rxBytes wire).rxCsum = s.txCsum

/-- R97: TX_BUILD t, p is TX_SET_TYPE, TX_SET_LEN, one TX_WRITE for each payload byte in index order and TX_CSUM; every one of
these commands responds OK, and the frame is left built with its checksum. -/
def Obligations.TxBuildBuildsTheFrame : Prop :=
  ∀ (s : State) (t : Byte) (p : List Byte), p.length ≤ s.cfg.txCap →
    txBuild t p = .txSetType t :: .txSetLen (BitVec.ofNat 16 (p.length + 1)) ::
      ((List.range p.length).map (fun i => Instr.txWrite (BitVec.ofNat 16 i) (p.getD i 0x00)) ++ [.txCsum]) ∧
    (∀ before i after, txBuild t p = before ++ i :: after →
      ∃ s1 s2 v, execAll before s = .next s1 ∧ exec i s1 = .next s2 ∧ s2.port = .responded ⟨.ok, v⟩) ∧
    ∃ u, execAll (txBuild t p) s = .next u ∧ u.txType = t ∧ u.txLen = BitVec.ofNat 16 (p.length + 1) ∧
      u.txPayload = p ∧ u.txCsum = chk t p ∧ u.txCsv = true ∧ SameRxSide s u ∧ SameAround s u
end

