-- ==== Sys2Proof/Laws/Decode.lean ====
section
/-! SUPPORT. The fields of a built command word, and decodeCmd as a lookup of OP alone. -/

namespace Sys2Proof

@[simp] theorem opField_cmdWord (op : Byte) (a : Half) (b : Byte) : opField (cmdWord op a b) = op := by
  show BitVec.extractLsb' 24 8 ((op ++ a) ++ b : BitVec (8 + 16 + 8)) = op
  ext i hi
  simp only [BitVec.getElem_extractLsb']
  grind

@[simp] theorem aField_cmdWord (op : Byte) (a : Half) (b : Byte) : aField (cmdWord op a b) = a := by
  show BitVec.extractLsb' 8 16 ((op ++ a) ++ b : BitVec (8 + 16 + 8)) = a
  ext i hi
  simp only [BitVec.getElem_extractLsb']
  grind

@[simp] theorem bField_cmdWord (op : Byte) (a : Half) (b : Byte) : bField (cmdWord op a b) = b := by
  show BitVec.extractLsb' 0 8 ((op ++ a) ++ b : BitVec (8 + 16 + 8)) = b
  ext i hi
  simp only [BitVec.getElem_extractLsb']
  grind

/-- A word decodes to the row its opcode selects (R89). -/
theorem decodeCmd_of_row {w : Word} {row : CmdRow} (h : cmdTable.find? (fun r => r.op == opField w) = some row) :
    decodeCmd w = .instr (row.build (aField w) (bField w)) := by
  unfold decodeCmd
  rw [h]

/-- No two rows of the opcode map have the same opcode. -/
theorem cmdTable_opcodes_distinct : (cmdTable.map CmdRow.op).Nodup := by decide

end Sys2Proof
end

