-- ==== Sys2Proof/Laws/Memory.lean ====
section
/-! SUPPORT. The laws of the payload buffers: a read after a write, and that writes keep the canonical form and the
capacity. -/

namespace Sys2Proof.Machine

@[simp] theorem Memory.read_write_same (m : Memory) (i : Nat) (b : Byte) : Memory.read (Memory.write m i b) i = some b := by
  induction m with
  | nil => simp [Memory.write, Memory.read]
  | cons cell m ih =>
    obtain ⟨j, c⟩ := cell
    simp only [Memory.write]
    split
    · simp [Memory.read]
    · split
      · simp [Memory.read]
      · simp [Memory.read, *]

theorem Memory.read_write_other (m : Memory) {i k : Nat} (b : Byte) (h : k ≠ i) :
    Memory.read (Memory.write m i b) k = Memory.read m k := by
  induction m with
  | nil => simp [Memory.write, Memory.read, h]
  | cons cell m ih =>
    obtain ⟨j, c⟩ := cell
    simp only [Memory.write]
    split
    · simp [Memory.read, h]
    · split
      · subst_vars; simp [Memory.read, h]
      · simp [Memory.read, ih]

/-- An index listed after a write was listed before or is the one written. -/
theorem Memory.mem_write (m : Memory) (i : Nat) (b : Byte) (c : Host.Cell) (h : c ∈ Memory.write m i b) :
    c = (i, b) ∨ c ∈ m := by
  induction m with
  | nil => simpa [Memory.write] using h
  | cons cell m ih =>
    obtain ⟨j, d⟩ := cell
    simp only [Memory.write] at h
    split at h
    · simpa using h
    · split at h
      · rcases List.mem_cons.1 h with rfl | h
        · exact .inl rfl
        · exact .inr (List.mem_cons_of_mem _ h)
      · rcases List.mem_cons.1 h with rfl | h
        · exact .inr (List.mem_cons_self ..)
        · exact (ih h).imp_right (List.mem_cons_of_mem _)

/-- A write keeps the canonical form. -/
theorem Memory.write_wf (m : Memory) (i : Nat) (b : Byte) (h : Memory.wf m) : Memory.wf (Memory.write m i b) := by
  induction m with
  | nil => simp [Memory.write]
  | cons cell m ih =>
    obtain ⟨j, d⟩ := cell
    obtain ⟨hj, hm⟩ := List.pairwise_cons.1 h
    simp only [Memory.write]
    split
    · rename_i hij
      refine List.pairwise_cons.2 ⟨fun c hc => ?_, h⟩
      rcases List.mem_cons.1 hc with rfl | hc
      · exact hij
      · exact hij.trans (hj c hc)
    · split
      · subst_vars; exact List.pairwise_cons.2 ⟨hj, hm⟩
      · refine List.pairwise_cons.2 ⟨fun c hc => ?_, ih hm⟩
        rcases Memory.mem_write m i b c hc with rfl | hc
        · show j < i; omega
        · exact hj c hc

/-- A write below the capacity keeps every listed index below it. -/
theorem Memory.write_below (m : Memory) {i cap : Nat} (b : Byte) (h : Memory.below m cap) (hi : i < cap) :
    Memory.below (Memory.write m i b) cap := fun c hc => by
  rcases Memory.mem_write m i b c hc with rfl | hc
  · exact hi
  · exact h c hc

theorem Memory.wf_nil : Memory.wf [] := List.Pairwise.nil

theorem Memory.below_nil (cap : Nat) : Memory.below [] cap := fun _ h => nomatch h

/-- Equal canonical memories: two canonical lists that read the same at every index are the same list. -/
theorem Memory.eq_of_read_eq {m n : Memory} (hm : Memory.wf m) (hn : Memory.wf n)
    (h : ∀ i, Memory.read m i = Memory.read n i) : m = n := by
  have above : ∀ {l : Memory} {i : Nat}, (∀ c ∈ l, i < c.1) → Memory.read l i = none := by
    intro l i hl
    induction l with
    | nil => rfl
    | cons c l ih =>
      have := hl c (List.mem_cons_self ..)
      simp [Memory.read, show i ≠ c.1 by omega, ih fun d hd => hl d (List.mem_cons_of_mem _ hd)]
  induction m generalizing n with
  | nil =>
    cases n with
    | nil => rfl
    | cons d n => simpa [Memory.read] using h d.1
  | cons c m ih =>
    cases n with
    | nil => simpa [Memory.read] using h c.1
    | cons d n =>
      obtain ⟨hc, hm'⟩ := List.pairwise_cons.1 hm
      obtain ⟨hd, hn'⟩ := List.pairwise_cons.1 hn
      rcases lt_trichotomy c.1 d.1 with hlt | heq | hgt
      · have h1 := h c.1
        have h2 : Memory.read n c.1 = none := above fun e he => hlt.trans (hd e he)
        simp [Memory.read, h2, show c.1 ≠ d.1 by omega] at h1
      · have h1 := h c.1
        simp [Memory.read, heq] at h1
        have hcd : c = d := Prod.ext heq h1
        subst hcd
        refine congrArg (c :: ·) (ih hm' hn' fun i => ?_)
        by_cases hi : i = c.1
        · subst hi; rw [above hc, above hd]
        · simpa [Memory.read, hi] using h i
      · have h1 := h d.1
        have h2 : Memory.read m d.1 = none := above fun e he => hgt.trans (hc e he)
        simp [Memory.read, h2, show d.1 ≠ c.1 by omega] at h1

end Sys2Proof.Machine
end

