-- ==== Sys2Proof/Laws/State.lean ====
section
/-! SUPPORT. What each operation leaves of each field, so that no proof has to unfold a record update. -/

namespace Sys2Proof.Machine

/-! ### respond: the port only (R92) -/

section
variable (s : State) (rc : RespCode) (val : Word)

@[simp] theorem State.respond_cfg : (s.respond rc val).cfg = s.cfg := rfl
@[simp] theorem State.respond_draws : (s.respond rc val).draws = s.draws := rfl
@[simp] theorem State.respond_txType : (s.respond rc val).txType = s.txType := rfl
@[simp] theorem State.respond_txLen : (s.respond rc val).txLen = s.txLen := rfl
@[simp] theorem State.respond_txb : (s.respond rc val).txb = s.txb := rfl
@[simp] theorem State.respond_txCsum : (s.respond rc val).txCsum = s.txCsum := rfl
@[simp] theorem State.respond_txCsv : (s.respond rc val).txCsv = s.txCsv := rfl
@[simp] theorem State.respond_rxType : (s.respond rc val).rxType = s.rxType := rfl
@[simp] theorem State.respond_rxLen : (s.respond rc val).rxLen = s.rxLen := rfl
@[simp] theorem State.respond_rxb : (s.respond rc val).rxb = s.rxb := rfl
@[simp] theorem State.respond_rxCsum : (s.respond rc val).rxCsum = s.rxCsum := rfl
@[simp] theorem State.respond_rxStat : (s.respond rc val).rxStat = s.rxStat := rfl
@[simp] theorem State.respond_rxErr : (s.respond rc val).rxErr = s.rxErr := rfl
@[simp] theorem State.respond_decSt : (s.respond rc val).decSt = s.decSt := rfl
@[simp] theorem State.respond_decEsc : (s.respond rc val).decEsc = s.decEsc := rfl
@[simp] theorem State.respond_decAcc : (s.respond rc val).decAcc = s.decAcc := rfl
@[simp] theorem State.respond_decCnt : (s.respond rc val).decCnt = s.decCnt := rfl
@[simp] theorem State.respond_port : (s.respond rc val).port = .responded ⟨rc, val⟩ := rfl
@[simp] theorem State.respond_resetPending : (s.respond rc val).resetPending = s.resetPending := rfl
@[simp] theorem State.respond_src : (s.respond rc val).src = s.src := rfl
@[simp] theorem State.respond_snk : (s.respond rc val).snk = s.snk := rfl
@[simp] theorem State.respond_link : (s.respond rc val).link = s.link := rfl
@[simp] theorem State.respond_flushCalls : (s.respond rc val).flushCalls = s.flushCalls := rfl
@[simp] theorem State.respond_sched : (s.respond rc val).sched = s.sched := rfl
@[simp] theorem State.respond_later : (s.respond rc val).later = s.later := rfl

end

/-! ### raise CmdError: the port only (R211) -/

section
variable (s : State) (rc : RespCode)

@[simp] theorem State.raiseCmdError_cfg : (s.raiseCmdError rc).cfg = s.cfg := rfl
@[simp] theorem State.raiseCmdError_draws : (s.raiseCmdError rc).draws = s.draws := rfl
@[simp] theorem State.raiseCmdError_txType : (s.raiseCmdError rc).txType = s.txType := rfl
@[simp] theorem State.raiseCmdError_txLen : (s.raiseCmdError rc).txLen = s.txLen := rfl
@[simp] theorem State.raiseCmdError_txb : (s.raiseCmdError rc).txb = s.txb := rfl
@[simp] theorem State.raiseCmdError_txCsum : (s.raiseCmdError rc).txCsum = s.txCsum := rfl
@[simp] theorem State.raiseCmdError_txCsv : (s.raiseCmdError rc).txCsv = s.txCsv := rfl
@[simp] theorem State.raiseCmdError_rxType : (s.raiseCmdError rc).rxType = s.rxType := rfl
@[simp] theorem State.raiseCmdError_rxLen : (s.raiseCmdError rc).rxLen = s.rxLen := rfl
@[simp] theorem State.raiseCmdError_rxb : (s.raiseCmdError rc).rxb = s.rxb := rfl
@[simp] theorem State.raiseCmdError_rxCsum : (s.raiseCmdError rc).rxCsum = s.rxCsum := rfl
@[simp] theorem State.raiseCmdError_rxStat : (s.raiseCmdError rc).rxStat = s.rxStat := rfl
@[simp] theorem State.raiseCmdError_rxErr : (s.raiseCmdError rc).rxErr = s.rxErr := rfl
@[simp] theorem State.raiseCmdError_decSt : (s.raiseCmdError rc).decSt = s.decSt := rfl
@[simp] theorem State.raiseCmdError_decEsc : (s.raiseCmdError rc).decEsc = s.decEsc := rfl
@[simp] theorem State.raiseCmdError_decAcc : (s.raiseCmdError rc).decAcc = s.decAcc := rfl
@[simp] theorem State.raiseCmdError_decCnt : (s.raiseCmdError rc).decCnt = s.decCnt := rfl
@[simp] theorem State.raiseCmdError_port : (s.raiseCmdError rc).port = .responded ⟨rc, 0⟩ := rfl
@[simp] theorem State.raiseCmdError_resetPending : (s.raiseCmdError rc).resetPending = s.resetPending := rfl
@[simp] theorem State.raiseCmdError_src : (s.raiseCmdError rc).src = s.src := rfl
@[simp] theorem State.raiseCmdError_snk : (s.raiseCmdError rc).snk = s.snk := rfl
@[simp] theorem State.raiseCmdError_link : (s.raiseCmdError rc).link = s.link := rfl
@[simp] theorem State.raiseCmdError_flushCalls : (s.raiseCmdError rc).flushCalls = s.flushCalls := rfl
@[simp] theorem State.raiseCmdError_sched : (s.raiseCmdError rc).sched = s.sched := rfl
@[simp] theorem State.raiseCmdError_later : (s.raiseCmdError rc).later = s.later := rfl

end

/-! ### terminate: RX_STAT and RX_ERR only (R181) -/

section
variable (s : State) (err : RxErr)

@[simp] theorem State.terminate_cfg : (s.terminate err).cfg = s.cfg := rfl
@[simp] theorem State.terminate_draws : (s.terminate err).draws = s.draws := rfl
@[simp] theorem State.terminate_txType : (s.terminate err).txType = s.txType := rfl
@[simp] theorem State.terminate_txLen : (s.terminate err).txLen = s.txLen := rfl
@[simp] theorem State.terminate_txb : (s.terminate err).txb = s.txb := rfl
@[simp] theorem State.terminate_txCsum : (s.terminate err).txCsum = s.txCsum := rfl
@[simp] theorem State.terminate_txCsv : (s.terminate err).txCsv = s.txCsv := rfl
@[simp] theorem State.terminate_rxType : (s.terminate err).rxType = s.rxType := rfl
@[simp] theorem State.terminate_rxLen : (s.terminate err).rxLen = s.rxLen := rfl
@[simp] theorem State.terminate_rxb : (s.terminate err).rxb = s.rxb := rfl
@[simp] theorem State.terminate_rxCsum : (s.terminate err).rxCsum = s.rxCsum := rfl
@[simp] theorem State.terminate_rxStat : (s.terminate err).rxStat = .errored := rfl
@[simp] theorem State.terminate_rxErr : (s.terminate err).rxErr = err := rfl
@[simp] theorem State.terminate_decSt : (s.terminate err).decSt = s.decSt := rfl
@[simp] theorem State.terminate_decEsc : (s.terminate err).decEsc = s.decEsc := rfl
@[simp] theorem State.terminate_decAcc : (s.terminate err).decAcc = s.decAcc := rfl
@[simp] theorem State.terminate_decCnt : (s.terminate err).decCnt = s.decCnt := rfl
@[simp] theorem State.terminate_port : (s.terminate err).port = s.port := rfl
@[simp] theorem State.terminate_resetPending : (s.terminate err).resetPending = s.resetPending := rfl
@[simp] theorem State.terminate_src : (s.terminate err).src = s.src := rfl
@[simp] theorem State.terminate_snk : (s.terminate err).snk = s.snk := rfl
@[simp] theorem State.terminate_link : (s.terminate err).link = s.link := rfl
@[simp] theorem State.terminate_flushCalls : (s.terminate err).flushCalls = s.flushCalls := rfl
@[simp] theorem State.terminate_sched : (s.terminate err).sched = s.sched := rfl
@[simp] theorem State.terminate_later : (s.terminate err).later = s.later := rfl

end

/-! ### a TXB write (R113) -/

section
variable (s : State) (i : Half) (b : Byte)

@[simp] theorem State.writeTxb_cfg : (s.writeTxb i b).cfg = s.cfg := rfl
@[simp] theorem State.writeTxb_draws : (s.writeTxb i b).draws = s.draws := rfl
@[simp] theorem State.writeTxb_txType : (s.writeTxb i b).txType = s.txType := rfl
@[simp] theorem State.writeTxb_txLen : (s.writeTxb i b).txLen = s.txLen := rfl
@[simp] theorem State.writeTxb_txb : (s.writeTxb i b).txb = Memory.write s.txb i.toNat b := rfl
@[simp] theorem State.writeTxb_txCsum : (s.writeTxb i b).txCsum = s.txCsum := rfl
@[simp] theorem State.writeTxb_txCsv : (s.writeTxb i b).txCsv = s.txCsv := rfl
@[simp] theorem State.writeTxb_rxType : (s.writeTxb i b).rxType = s.rxType := rfl
@[simp] theorem State.writeTxb_rxLen : (s.writeTxb i b).rxLen = s.rxLen := rfl
@[simp] theorem State.writeTxb_rxb : (s.writeTxb i b).rxb = s.rxb := rfl
@[simp] theorem State.writeTxb_rxCsum : (s.writeTxb i b).rxCsum = s.rxCsum := rfl
@[simp] theorem State.writeTxb_rxStat : (s.writeTxb i b).rxStat = s.rxStat := rfl
@[simp] theorem State.writeTxb_rxErr : (s.writeTxb i b).rxErr = s.rxErr := rfl
@[simp] theorem State.writeTxb_decSt : (s.writeTxb i b).decSt = s.decSt := rfl
@[simp] theorem State.writeTxb_decEsc : (s.writeTxb i b).decEsc = s.decEsc := rfl
@[simp] theorem State.writeTxb_decAcc : (s.writeTxb i b).decAcc = s.decAcc := rfl
@[simp] theorem State.writeTxb_decCnt : (s.writeTxb i b).decCnt = s.decCnt := rfl
@[simp] theorem State.writeTxb_port : (s.writeTxb i b).port = s.port := rfl
@[simp] theorem State.writeTxb_resetPending : (s.writeTxb i b).resetPending = s.resetPending := rfl
@[simp] theorem State.writeTxb_src : (s.writeTxb i b).src = s.src := rfl
@[simp] theorem State.writeTxb_snk : (s.writeTxb i b).snk = s.snk := rfl
@[simp] theorem State.writeTxb_link : (s.writeTxb i b).link = s.link := rfl
@[simp] theorem State.writeTxb_flushCalls : (s.writeTxb i b).flushCalls = s.flushCalls := rfl
@[simp] theorem State.writeTxb_sched : (s.writeTxb i b).sched = s.sched := rfl
@[simp] theorem State.writeTxb_later : (s.writeTxb i b).later = s.later := rfl

end

/-! ### an RXB write (R182) -/

section
variable (s : State) (i : Half) (b : Byte)

@[simp] theorem State.writeRxb_cfg : (s.writeRxb i b).cfg = s.cfg := rfl
@[simp] theorem State.writeRxb_draws : (s.writeRxb i b).draws = s.draws := rfl
@[simp] theorem State.writeRxb_txType : (s.writeRxb i b).txType = s.txType := rfl
@[simp] theorem State.writeRxb_txLen : (s.writeRxb i b).txLen = s.txLen := rfl
@[simp] theorem State.writeRxb_txb : (s.writeRxb i b).txb = s.txb := rfl
@[simp] theorem State.writeRxb_txCsum : (s.writeRxb i b).txCsum = s.txCsum := rfl
@[simp] theorem State.writeRxb_txCsv : (s.writeRxb i b).txCsv = s.txCsv := rfl
@[simp] theorem State.writeRxb_rxType : (s.writeRxb i b).rxType = s.rxType := rfl
@[simp] theorem State.writeRxb_rxLen : (s.writeRxb i b).rxLen = s.rxLen := rfl
@[simp] theorem State.writeRxb_rxb : (s.writeRxb i b).rxb = Memory.write s.rxb i.toNat b := rfl
@[simp] theorem State.writeRxb_rxCsum : (s.writeRxb i b).rxCsum = s.rxCsum := rfl
@[simp] theorem State.writeRxb_rxStat : (s.writeRxb i b).rxStat = s.rxStat := rfl
@[simp] theorem State.writeRxb_rxErr : (s.writeRxb i b).rxErr = s.rxErr := rfl
@[simp] theorem State.writeRxb_decSt : (s.writeRxb i b).decSt = s.decSt := rfl
@[simp] theorem State.writeRxb_decEsc : (s.writeRxb i b).decEsc = s.decEsc := rfl
@[simp] theorem State.writeRxb_decAcc : (s.writeRxb i b).decAcc = s.decAcc := rfl
@[simp] theorem State.writeRxb_decCnt : (s.writeRxb i b).decCnt = s.decCnt := rfl
@[simp] theorem State.writeRxb_port : (s.writeRxb i b).port = s.port := rfl
@[simp] theorem State.writeRxb_resetPending : (s.writeRxb i b).resetPending = s.resetPending := rfl
@[simp] theorem State.writeRxb_src : (s.writeRxb i b).src = s.src := rfl
@[simp] theorem State.writeRxb_snk : (s.writeRxb i b).snk = s.snk := rfl
@[simp] theorem State.writeRxb_link : (s.writeRxb i b).link = s.link := rfl
@[simp] theorem State.writeRxb_flushCalls : (s.writeRxb i b).flushCalls = s.flushCalls := rfl
@[simp] theorem State.writeRxb_sched : (s.writeRxb i b).sched = s.sched := rfl
@[simp] theorem State.writeRxb_later : (s.writeRxb i b).later = s.later := rfl

end

/-! ### TX_CSUM and TX_CSV (R114) -/

section
variable (s : State)

@[simp] theorem State.storeTxCsum_cfg : s.storeTxCsum.cfg = s.cfg := rfl
@[simp] theorem State.storeTxCsum_draws : s.storeTxCsum.draws = s.draws := rfl
@[simp] theorem State.storeTxCsum_txType : s.storeTxCsum.txType = s.txType := rfl
@[simp] theorem State.storeTxCsum_txLen : s.storeTxCsum.txLen = s.txLen := rfl
@[simp] theorem State.storeTxCsum_txb : s.storeTxCsum.txb = s.txb := rfl
@[simp] theorem State.storeTxCsum_txCsum : s.storeTxCsum.txCsum = s.txChk := rfl
@[simp] theorem State.storeTxCsum_txCsv : s.storeTxCsum.txCsv = true := rfl
@[simp] theorem State.storeTxCsum_rxType : s.storeTxCsum.rxType = s.rxType := rfl
@[simp] theorem State.storeTxCsum_rxLen : s.storeTxCsum.rxLen = s.rxLen := rfl
@[simp] theorem State.storeTxCsum_rxb : s.storeTxCsum.rxb = s.rxb := rfl
@[simp] theorem State.storeTxCsum_rxCsum : s.storeTxCsum.rxCsum = s.rxCsum := rfl
@[simp] theorem State.storeTxCsum_rxStat : s.storeTxCsum.rxStat = s.rxStat := rfl
@[simp] theorem State.storeTxCsum_rxErr : s.storeTxCsum.rxErr = s.rxErr := rfl
@[simp] theorem State.storeTxCsum_decSt : s.storeTxCsum.decSt = s.decSt := rfl
@[simp] theorem State.storeTxCsum_decEsc : s.storeTxCsum.decEsc = s.decEsc := rfl
@[simp] theorem State.storeTxCsum_decAcc : s.storeTxCsum.decAcc = s.decAcc := rfl
@[simp] theorem State.storeTxCsum_decCnt : s.storeTxCsum.decCnt = s.decCnt := rfl
@[simp] theorem State.storeTxCsum_port : s.storeTxCsum.port = s.port := rfl
@[simp] theorem State.storeTxCsum_resetPending : s.storeTxCsum.resetPending = s.resetPending := rfl
@[simp] theorem State.storeTxCsum_src : s.storeTxCsum.src = s.src := rfl
@[simp] theorem State.storeTxCsum_snk : s.storeTxCsum.snk = s.snk := rfl
@[simp] theorem State.storeTxCsum_link : s.storeTxCsum.link = s.link := rfl
@[simp] theorem State.storeTxCsum_flushCalls : s.storeTxCsum.flushCalls = s.flushCalls := rfl
@[simp] theorem State.storeTxCsum_sched : s.storeTxCsum.sched = s.sched := rfl
@[simp] theorem State.storeTxCsum_later : s.storeTxCsum.later = s.later := rfl

end

/-! ### Clear (R171) -/

section
variable (s : State)

@[simp] theorem State.clear_cfg : s.clear.cfg = s.cfg := rfl
@[simp] theorem State.clear_draws : s.clear.draws = s.draws := rfl
@[simp] theorem State.clear_txType : s.clear.txType = s.txType := rfl
@[simp] theorem State.clear_txLen : s.clear.txLen = s.txLen := rfl
@[simp] theorem State.clear_txb : s.clear.txb = s.txb := rfl
@[simp] theorem State.clear_txCsum : s.clear.txCsum = s.txCsum := rfl
@[simp] theorem State.clear_txCsv : s.clear.txCsv = s.txCsv := rfl
@[simp] theorem State.clear_rxType : s.clear.rxType = 0x00 := rfl
@[simp] theorem State.clear_rxLen : s.clear.rxLen = 0x0000 := rfl
@[simp] theorem State.clear_rxb : s.clear.rxb = s.rxb := rfl
@[simp] theorem State.clear_rxCsum : s.clear.rxCsum = 0x00 := rfl
@[simp] theorem State.clear_rxStat : s.clear.rxStat = .pending := rfl
@[simp] theorem State.clear_rxErr : s.clear.rxErr = .noError := rfl
@[simp] theorem State.clear_decSt : s.clear.decSt = .awaitStart := rfl
@[simp] theorem State.clear_decEsc : s.clear.decEsc = false := rfl
@[simp] theorem State.clear_decAcc : s.clear.decAcc = 0x00 := rfl
@[simp] theorem State.clear_decCnt : s.clear.decCnt = 0x0000 := rfl
@[simp] theorem State.clear_port : s.clear.port = s.port := rfl
@[simp] theorem State.clear_resetPending : s.clear.resetPending = s.resetPending := rfl
@[simp] theorem State.clear_src : s.clear.src = s.src := rfl
@[simp] theorem State.clear_snk : s.clear.snk = s.snk := rfl
@[simp] theorem State.clear_link : s.clear.link = s.link := rfl
@[simp] theorem State.clear_flushCalls : s.clear.flushCalls = s.flushCalls := rfl
@[simp] theorem State.clear_sched : s.clear.sched = s.sched := rfl
@[simp] theorem State.clear_later : s.clear.later = s.later := rfl

end

/-! ### an arrival (R58) -/

section
variable (s : State) (b : Byte)

@[simp] theorem State.srcAppend_cfg : (s.srcAppend b).cfg = s.cfg := rfl
@[simp] theorem State.srcAppend_draws : (s.srcAppend b).draws = s.draws := rfl
@[simp] theorem State.srcAppend_txType : (s.srcAppend b).txType = s.txType := rfl
@[simp] theorem State.srcAppend_txLen : (s.srcAppend b).txLen = s.txLen := rfl
@[simp] theorem State.srcAppend_txb : (s.srcAppend b).txb = s.txb := rfl
@[simp] theorem State.srcAppend_txCsum : (s.srcAppend b).txCsum = s.txCsum := rfl
@[simp] theorem State.srcAppend_txCsv : (s.srcAppend b).txCsv = s.txCsv := rfl
@[simp] theorem State.srcAppend_rxType : (s.srcAppend b).rxType = s.rxType := rfl
@[simp] theorem State.srcAppend_rxLen : (s.srcAppend b).rxLen = s.rxLen := rfl
@[simp] theorem State.srcAppend_rxb : (s.srcAppend b).rxb = s.rxb := rfl
@[simp] theorem State.srcAppend_rxCsum : (s.srcAppend b).rxCsum = s.rxCsum := rfl
@[simp] theorem State.srcAppend_rxStat : (s.srcAppend b).rxStat = s.rxStat := rfl
@[simp] theorem State.srcAppend_rxErr : (s.srcAppend b).rxErr = s.rxErr := rfl
@[simp] theorem State.srcAppend_decSt : (s.srcAppend b).decSt = s.decSt := rfl
@[simp] theorem State.srcAppend_decEsc : (s.srcAppend b).decEsc = s.decEsc := rfl
@[simp] theorem State.srcAppend_decAcc : (s.srcAppend b).decAcc = s.decAcc := rfl
@[simp] theorem State.srcAppend_decCnt : (s.srcAppend b).decCnt = s.decCnt := rfl
@[simp] theorem State.srcAppend_port : (s.srcAppend b).port = s.port := rfl
@[simp] theorem State.srcAppend_resetPending : (s.srcAppend b).resetPending = s.resetPending := rfl
@[simp] theorem State.srcAppend_src : (s.srcAppend b).src = s.src ++ [b] := rfl
@[simp] theorem State.srcAppend_snk : (s.srcAppend b).snk = s.snk := rfl
@[simp] theorem State.srcAppend_link : (s.srcAppend b).link = s.link := rfl
@[simp] theorem State.srcAppend_flushCalls : (s.srcAppend b).flushCalls = s.flushCalls := rfl
@[simp] theorem State.srcAppend_sched : (s.srcAppend b).sched = s.sched := rfl
@[simp] theorem State.srcAppend_later : (s.srcAppend b).later = s.later := rfl

end

/-! ### SinkWrite (R62) -/

section
variable (s : State) (b : Byte)

@[simp] theorem State.sinkWrite_cfg : (s.sinkWrite b).cfg = s.cfg := rfl
@[simp] theorem State.sinkWrite_draws : (s.sinkWrite b).draws = s.draws := rfl
@[simp] theorem State.sinkWrite_txType : (s.sinkWrite b).txType = s.txType := rfl
@[simp] theorem State.sinkWrite_txLen : (s.sinkWrite b).txLen = s.txLen := rfl
@[simp] theorem State.sinkWrite_txb : (s.sinkWrite b).txb = s.txb := rfl
@[simp] theorem State.sinkWrite_txCsum : (s.sinkWrite b).txCsum = s.txCsum := rfl
@[simp] theorem State.sinkWrite_txCsv : (s.sinkWrite b).txCsv = s.txCsv := rfl
@[simp] theorem State.sinkWrite_rxType : (s.sinkWrite b).rxType = s.rxType := rfl
@[simp] theorem State.sinkWrite_rxLen : (s.sinkWrite b).rxLen = s.rxLen := rfl
@[simp] theorem State.sinkWrite_rxb : (s.sinkWrite b).rxb = s.rxb := rfl
@[simp] theorem State.sinkWrite_rxCsum : (s.sinkWrite b).rxCsum = s.rxCsum := rfl
@[simp] theorem State.sinkWrite_rxStat : (s.sinkWrite b).rxStat = s.rxStat := rfl
@[simp] theorem State.sinkWrite_rxErr : (s.sinkWrite b).rxErr = s.rxErr := rfl
@[simp] theorem State.sinkWrite_decSt : (s.sinkWrite b).decSt = s.decSt := rfl
@[simp] theorem State.sinkWrite_decEsc : (s.sinkWrite b).decEsc = s.decEsc := rfl
@[simp] theorem State.sinkWrite_decAcc : (s.sinkWrite b).decAcc = s.decAcc := rfl
@[simp] theorem State.sinkWrite_decCnt : (s.sinkWrite b).decCnt = s.decCnt := rfl
@[simp] theorem State.sinkWrite_port : (s.sinkWrite b).port = s.port := rfl
@[simp] theorem State.sinkWrite_resetPending : (s.sinkWrite b).resetPending = s.resetPending := rfl
@[simp] theorem State.sinkWrite_src : (s.sinkWrite b).src = s.src := rfl
@[simp] theorem State.sinkWrite_snk : (s.sinkWrite b).snk = s.snk ++ [b] := rfl
@[simp] theorem State.sinkWrite_link : (s.sinkWrite b).link = s.link := rfl
@[simp] theorem State.sinkWrite_flushCalls : (s.sinkWrite b).flushCalls = s.flushCalls := rfl
@[simp] theorem State.sinkWrite_sched : (s.sinkWrite b).sched = s.sched := rfl
@[simp] theorem State.sinkWrite_later : (s.sinkWrite b).later = s.later := rfl

end

/-! ### SinkFlush (R63) -/

section
variable (s : State)

@[simp] theorem State.sinkFlush_cfg : s.sinkFlush.cfg = s.cfg := rfl
@[simp] theorem State.sinkFlush_draws : s.sinkFlush.draws = s.draws := rfl
@[simp] theorem State.sinkFlush_txType : s.sinkFlush.txType = s.txType := rfl
@[simp] theorem State.sinkFlush_txLen : s.sinkFlush.txLen = s.txLen := rfl
@[simp] theorem State.sinkFlush_txb : s.sinkFlush.txb = s.txb := rfl
@[simp] theorem State.sinkFlush_txCsum : s.sinkFlush.txCsum = s.txCsum := rfl
@[simp] theorem State.sinkFlush_txCsv : s.sinkFlush.txCsv = s.txCsv := rfl
@[simp] theorem State.sinkFlush_rxType : s.sinkFlush.rxType = s.rxType := rfl
@[simp] theorem State.sinkFlush_rxLen : s.sinkFlush.rxLen = s.rxLen := rfl
@[simp] theorem State.sinkFlush_rxb : s.sinkFlush.rxb = s.rxb := rfl
@[simp] theorem State.sinkFlush_rxCsum : s.sinkFlush.rxCsum = s.rxCsum := rfl
@[simp] theorem State.sinkFlush_rxStat : s.sinkFlush.rxStat = s.rxStat := rfl
@[simp] theorem State.sinkFlush_rxErr : s.sinkFlush.rxErr = s.rxErr := rfl
@[simp] theorem State.sinkFlush_decSt : s.sinkFlush.decSt = s.decSt := rfl
@[simp] theorem State.sinkFlush_decEsc : s.sinkFlush.decEsc = s.decEsc := rfl
@[simp] theorem State.sinkFlush_decAcc : s.sinkFlush.decAcc = s.decAcc := rfl
@[simp] theorem State.sinkFlush_decCnt : s.sinkFlush.decCnt = s.decCnt := rfl
@[simp] theorem State.sinkFlush_port : s.sinkFlush.port = s.port := rfl
@[simp] theorem State.sinkFlush_resetPending : s.sinkFlush.resetPending = s.resetPending := rfl
@[simp] theorem State.sinkFlush_src : s.sinkFlush.src = s.src := rfl
@[simp] theorem State.sinkFlush_snk : s.sinkFlush.snk = if s.cfg.sinkFlushDelivers then [] else s.snk := rfl
@[simp] theorem State.sinkFlush_link : s.sinkFlush.link = if s.cfg.sinkFlushDelivers then s.link ++ s.snk else s.link := rfl
@[simp] theorem State.sinkFlush_flushCalls : s.sinkFlush.flushCalls = s.flushCalls + 1 := rfl
@[simp] theorem State.sinkFlush_sched : s.sinkFlush.sched = s.sched := rfl
@[simp] theorem State.sinkFlush_later : s.sinkFlush.later = s.later := rfl

end

/-! ### reset (R240, R242) -/

section
variable (s : State)

@[simp] theorem State.applyReset_cfg : s.applyReset.cfg = s.cfg := rfl
@[simp] theorem State.applyReset_draws : s.applyReset.draws = s.draws + 1 := rfl
@[simp] theorem State.applyReset_txType : s.applyReset.txType = 0x00 := rfl
@[simp] theorem State.applyReset_txLen : s.applyReset.txLen = 0x0000 := rfl
@[simp] theorem State.applyReset_txb : s.applyReset.txb = [] := rfl
@[simp] theorem State.applyReset_txCsum : s.applyReset.txCsum = 0x00 := rfl
@[simp] theorem State.applyReset_txCsv : s.applyReset.txCsv = false := rfl
@[simp] theorem State.applyReset_rxType : s.applyReset.rxType = 0x00 := rfl
@[simp] theorem State.applyReset_rxLen : s.applyReset.rxLen = 0x0000 := rfl
@[simp] theorem State.applyReset_rxb : s.applyReset.rxb = [] := rfl
@[simp] theorem State.applyReset_rxCsum : s.applyReset.rxCsum = 0x00 := rfl
@[simp] theorem State.applyReset_rxStat : s.applyReset.rxStat = .pending := rfl
@[simp] theorem State.applyReset_rxErr : s.applyReset.rxErr = .noError := rfl
@[simp] theorem State.applyReset_decSt : s.applyReset.decSt = .awaitStart := rfl
@[simp] theorem State.applyReset_decEsc : s.applyReset.decEsc = false := rfl
@[simp] theorem State.applyReset_decAcc : s.applyReset.decAcc = 0x00 := rfl
@[simp] theorem State.applyReset_decCnt : s.applyReset.decCnt = 0x0000 := rfl
@[simp] theorem State.applyReset_port : s.applyReset.port = s.port := rfl
@[simp] theorem State.applyReset_resetPending : s.applyReset.resetPending = false := rfl
@[simp] theorem State.applyReset_src : s.applyReset.src = s.src := rfl
@[simp] theorem State.applyReset_snk : s.applyReset.snk = s.snk := rfl
@[simp] theorem State.applyReset_link : s.applyReset.link = s.link := rfl
@[simp] theorem State.applyReset_flushCalls : s.applyReset.flushCalls = s.flushCalls := rfl
@[simp] theorem State.applyReset_sched : s.applyReset.sched = s.sched := rfl
@[simp] theorem State.applyReset_later : s.applyReset.later = s.later := rfl

end

/-! ### the next move: the schedule only (R20) -/

/-- Taking a move off the schedule changes nothing else. -/
theorem State.nextMove_eq (s : State) :
    s.nextMove.2 = { s with sched := s.nextMove.2.sched, later := s.nextMove.2.later } := by
  unfold State.nextMove
  split <;> rfl

section
variable (s : State)

@[simp] theorem State.nextMove_cfg : s.nextMove.2.cfg = s.cfg := by rw [State.nextMove_eq]
@[simp] theorem State.nextMove_draws : s.nextMove.2.draws = s.draws := by rw [State.nextMove_eq]
@[simp] theorem State.nextMove_txType : s.nextMove.2.txType = s.txType := by rw [State.nextMove_eq]
@[simp] theorem State.nextMove_txLen : s.nextMove.2.txLen = s.txLen := by rw [State.nextMove_eq]
@[simp] theorem State.nextMove_txb : s.nextMove.2.txb = s.txb := by rw [State.nextMove_eq]
@[simp] theorem State.nextMove_txCsum : s.nextMove.2.txCsum = s.txCsum := by rw [State.nextMove_eq]
@[simp] theorem State.nextMove_txCsv : s.nextMove.2.txCsv = s.txCsv := by rw [State.nextMove_eq]
@[simp] theorem State.nextMove_rxType : s.nextMove.2.rxType = s.rxType := by rw [State.nextMove_eq]
@[simp] theorem State.nextMove_rxLen : s.nextMove.2.rxLen = s.rxLen := by rw [State.nextMove_eq]
@[simp] theorem State.nextMove_rxb : s.nextMove.2.rxb = s.rxb := by rw [State.nextMove_eq]
@[simp] theorem State.nextMove_rxCsum : s.nextMove.2.rxCsum = s.rxCsum := by rw [State.nextMove_eq]
@[simp] theorem State.nextMove_rxStat : s.nextMove.2.rxStat = s.rxStat := by rw [State.nextMove_eq]
@[simp] theorem State.nextMove_rxErr : s.nextMove.2.rxErr = s.rxErr := by rw [State.nextMove_eq]
@[simp] theorem State.nextMove_decSt : s.nextMove.2.decSt = s.decSt := by rw [State.nextMove_eq]
@[simp] theorem State.nextMove_decEsc : s.nextMove.2.decEsc = s.decEsc := by rw [State.nextMove_eq]
@[simp] theorem State.nextMove_decAcc : s.nextMove.2.decAcc = s.decAcc := by rw [State.nextMove_eq]
@[simp] theorem State.nextMove_decCnt : s.nextMove.2.decCnt = s.decCnt := by rw [State.nextMove_eq]
@[simp] theorem State.nextMove_port : s.nextMove.2.port = s.port := by rw [State.nextMove_eq]
@[simp] theorem State.nextMove_resetPending : s.nextMove.2.resetPending = s.resetPending := by rw [State.nextMove_eq]
@[simp] theorem State.nextMove_src : s.nextMove.2.src = s.src := by rw [State.nextMove_eq]
@[simp] theorem State.nextMove_snk : s.nextMove.2.snk = s.snk := by rw [State.nextMove_eq]
@[simp] theorem State.nextMove_link : s.nextMove.2.link = s.link := by rw [State.nextMove_eq]
@[simp] theorem State.nextMove_flushCalls : s.nextMove.2.flushCalls = s.flushCalls := by rw [State.nextMove_eq]

end

theorem State.nextMove_of_sched {s : State} {e : Event} {rest : List Event} (h : s.sched = e :: rest) :
    s.nextMove = (e, { s with sched := rest }) := by
  unfold State.nextMove
  rw [h]

theorem State.nextMove_of_idle {s : State} (hs : s.sched = []) (hl : s.later = .cycle []) : s.nextMove = (.turn, s) := by
  unfold State.nextMove
  rw [hs, hl]

theorem State.nextMove_of_cycle {s : State} {e : Event} {rest : List Event} (hs : s.sched = [])
    (hl : s.later = .cycle (e :: rest)) : s.nextMove = (e, { s with sched := rest }) := by
  unfold State.nextMove
  rw [hs, hl]

end Sys2Proof.Machine
end

