-- ==== Sys2Proof/Laws/Decoder.lean ====
section
/-! SUPPORT. What the decoder's byte step can do: one lemma for each branch of 42_decoder.md R172, what it leaves unchanged,
and that it depends on the block's registers only. -/

namespace Sys2Proof.Machine

/-- Only the RX frame and the decoder differ. -/
def OnlyRxSide (s t : State) : Prop :=
  t = { s with
    rxType := t.rxType, rxLen := t.rxLen, rxb := t.rxb, rxCsum := t.rxCsum, rxStat := t.rxStat, rxErr := t.rxErr
    decSt := t.decSt, decEsc := t.decEsc, decAcc := t.decAcc, decCnt := t.decCnt }

/-- The outside stays the same over two such changes. -/
theorem OnlyRxSide.trans_rx {s t u : State} (h1 : OnlyRxSide s t) (h2 : OnlyRxSide t u) : OnlyRxSide s u := by
  unfold OnlyRxSide at h1 h2 ⊢
  rw [h2, h1]

/-- The fields outside, one by one. -/
theorem OnlyRxSide.fields {s t : State} (h : OnlyRxSide s t) :
    t.cfg = s.cfg ∧ t.draws = s.draws ∧ t.txType = s.txType ∧ t.txLen = s.txLen ∧ t.txb = s.txb ∧ t.txCsum = s.txCsum ∧
      t.txCsv = s.txCsv ∧ t.port = s.port ∧ t.resetPending = s.resetPending ∧ t.src = s.src ∧ t.snk = s.snk ∧
      t.link = s.link ∧ t.flushCalls = s.flushCalls ∧ t.sched = s.sched ∧ t.later = s.later := by
  unfold OnlyRxSide at h
  rw [h]
  exact ⟨rfl, rfl, rfl, rfl, rfl, rfl, rfl, rfl, rfl, rfl, rfl, rfl, rfl, rfl, rfl⟩

/-- A data symbol changes nothing outside the RX frame and the decoder. -/
theorem State.dataSymbol_onlyRxSide (s : State) (b : Byte) : OnlyRxSide s (s.dataSymbol b) := by
  unfold State.dataSymbol
  split
  · rfl
  · rfl
  · rfl
  · rfl
  · unfold State.payloadByte State.checksum State.overflow
    split
    · split <;> rfl
    · split <;> rfl

/-- A byte step changes nothing outside the RX frame and the decoder. -/
theorem State.rxByte_onlyRxSide (s : State) (r : Byte) : OnlyRxSide s (s.rxByte r) := by
  unfold State.rxByte State.awaitStart
  split
  · rfl
  · split
    · split <;> rfl
    · split
      · rfl
      · split
        · rfl
        · exact State.dataSymbol_onlyRxSide { s with decEsc := false } _ |>.trans rfl

/-- The same block with another port, reset latch, source, sink and schedule. -/
def State.around (s : State) (port : Port) (rp : Bool) (src snk link : List Byte) (fc : Nat) (sched : List Event)
    (later : Later) : State :=
  { s with
    port := port, resetPending := rp, src := src, snk := snk, link := link, flushCalls := fc, sched := sched, later := later }

/-- What a data symbol does depends on, and changes, the block's registers only. -/
theorem State.dataSymbol_around (s : State) (p rp src snk link fc sched later) (b : Byte) :
    (s.around p rp src snk link fc sched later).dataSymbol b = (s.dataSymbol b).around p rp src snk link fc sched later := by
  have hd : (s.around p rp src snk link fc sched later).decSt = s.decSt := rfl
  unfold State.dataSymbol
  rw [hd]
  cases s.decSt
  · rfl
  · rfl
  · rfl
  · rfl
  · show State.payloadByte _ b = State.around (State.payloadByte s b) _ _ _ _ _ _ _ _
    unfold State.payloadByte State.checksum State.overflow State.around
    dsimp only
    split
    · split <;> rfl
    · split <;> rfl


/-- A frame that has ended takes no byte step (60_exceptions.md R218). -/
theorem State.rxByte_ended {s : State} (h : s.rxStat ≠ .pending) (r : Byte) : s.rxByte r = s := if_pos h

/-- The byte step while hunting (42_decoder.md R173). -/
theorem State.rxByte_hunting {s : State} (h : s.rxStat = .pending) (hd : s.decSt = .awaitStart) (r : Byte) :
    s.rxByte r = s.awaitStart r := by
  unfold State.rxByte; rw [if_neg (not_not.2 h), if_pos hd]

/-- A raw START inside a frame (R174). -/
theorem State.rxByte_start {s : State} (h : s.rxStat = .pending) (hd : s.decSt ≠ .awaitStart) :
    s.rxByte startByte = s.terminate .unexpectedStart := by
  unfold State.rxByte; rw [if_neg (not_not.2 h), if_neg hd, if_pos rfl]

/-- The escape byte (R175). -/
theorem State.rxByte_escape {s : State} (h : s.rxStat = .pending) (hd : s.decSt ≠ .awaitStart) (he : s.decEsc = false) :
    s.rxByte escByte = { s with decEsc := true } := by
  unfold State.rxByte; rw [if_neg (not_not.2 h), if_neg hd, if_neg (by decide), if_pos ⟨he, rfl⟩]

/-- A data symbol's byte (R176). -/
theorem State.rxByte_data {s : State} {r : Byte} (h : s.rxStat = .pending) (hd : s.decSt ≠ .awaitStart)
    (hr : r ≠ startByte) (he : s.decEsc = true ∨ r ≠ escByte) :
    s.rxByte r = State.dataSymbol { s with decEsc := false } (s.unescape r) := by
  unfold State.rxByte
  rw [if_neg (not_not.2 h), if_neg hd, if_neg hr, if_neg]
  rintro ⟨h1, h2⟩
  rcases he with he | he
  · rw [he] at h1; cases h1
  · exact he h2

/-- What a byte step does depends on, and changes, the block's registers only (R187). -/
theorem State.rxByte_around (s : State) (p rp src snk link fc sched later) (r : Byte) :
    (s.around p rp src snk link fc sched later).rxByte r = (s.rxByte r).around p rp src snk link fc sched later := by
  by_cases h : s.rxStat = .pending
  · by_cases hd : s.decSt = .awaitStart
    · rw [State.rxByte_hunting h hd, State.rxByte_hunting (s := s.around p rp src snk link fc sched later) h hd]
      unfold State.awaitStart; split <;> rfl
    · by_cases hr : r = startByte
      · subst hr; rw [State.rxByte_start h hd, State.rxByte_start (s := s.around p rp src snk link fc sched later) h hd]; rfl
      · by_cases he : s.decEsc = true ∨ r ≠ escByte
        · rw [State.rxByte_data h hd hr he, State.rxByte_data (s := s.around p rp src snk link fc sched later) h hd hr he]
          exact State.dataSymbol_around { s with decEsc := false } p rp src snk link fc sched later _
        · simp only [not_or, Bool.not_eq_true, not_not] at he
          obtain ⟨he, rfl⟩ := he
          rw [State.rxByte_escape h hd he, State.rxByte_escape (s := s.around p rp src snk link fc sched later) h hd he]; rfl
  · rw [State.rxByte_ended h, State.rxByte_ended (s := s.around p rp src snk link fc sched later) h]

/-- The same for a sequence of bytes (R187). -/
theorem State.rxBytes_around (s : State) (p rp src snk link fc sched later) (bs : List Byte) :
    (s.around p rp src snk link fc sched later).rxBytes bs = (s.rxBytes bs).around p rp src snk link fc sched later := by
  unfold State.rxBytes
  induction bs generalizing s with
  | nil => rfl
  | cons r bs ih => rw [List.foldl_cons, List.foldl_cons, State.rxByte_around, ih]
/-- RxByte on no byte, on one more byte, and on two runs of bytes. -/
@[simp] theorem State.rxBytes_nil (s : State) : s.rxBytes [] = s := rfl

@[simp] theorem State.rxBytes_cons (s : State) (r : Byte) (bs : List Byte) :
    s.rxBytes (r :: bs) = (s.rxByte r).rxBytes bs := rfl

theorem State.rxBytes_append (s : State) (xs ys : List Byte) : s.rxBytes (xs ++ ys) = (s.rxBytes xs).rxBytes ys :=
  List.foldl_append

/-- After the end of a frame further bytes change nothing. -/
theorem State.rxBytes_ended {s : State} (h : s.rxStat ≠ .pending) (bs : List Byte) : s.rxBytes bs = s := by
  induction bs with
  | nil => rfl
  | cons r bs ih => rw [State.rxBytes_cons, State.rxByte_ended h, ih]

/-- A sequence of bytes changes nothing outside the RX frame and the decoder. -/
theorem State.rxBytes_onlyRxSide (s : State) (bs : List Byte) : OnlyRxSide s (s.rxBytes bs) := by
  induction bs generalizing s with
  | nil => rfl
  | cons r bs ih => exact (State.rxByte_onlyRxSide s r).trans_rx (ih _)

/-- An escape pair at a symbol boundary gives its two bytes to the byte step; with the escape byte taken in before, the data
byte alone (R175, R176). -/
theorem State.rxEscaped_boundary {s : State} (h : s.decEsc = false) (x : Byte) : s.rxEscaped x = s.rxBytes [escByte, x] := by
  simp [State.rxEscaped, h]

theorem State.rxEscaped_pending {s : State} (h : s.decEsc = true) (x : Byte) : s.rxEscaped x = s.rxByte x := by
  simp [State.rxEscaped, h]

/-- The instruction of an escape pair, whichever row of the table it is. -/
theorem exec_escSymbol (s : State) (x : Byte) : exec (escSymbol x) s = .next (s.rxEscaped x) := by
  unfold escSymbol
  split_ifs <;> subst_vars <;> rfl

end Sys2Proof.Machine
end

