-- ==== Sys2Proof/Laws/Step.lean ====
section
/-! SUPPORT. What a step can do: a symbol is the byte step on the bytes it was read from, a round of DECODE's loop reads some
bytes and gives them to the byte step, and runs of several steps. -/

namespace Sys2Proof.Machine

/-- The bytes waiting in SRC do not matter to the byte step (42_decoder.md R187). -/
theorem State.rxBytes_src (s : State) (l : List Byte) (bs : List Byte) :
    State.rxBytes { s with src := l } bs = { s.rxBytes bs with src := l } := by
  have h := State.rxBytes_around s s.port s.resetPending l s.snk s.link s.flushCalls s.sched s.later bs
  obtain ⟨_, _, _, _, _, _, _, h1, h2, _, h4, h5, h6, h7, h8⟩ := (State.rxBytes_onlyRxSide s bs).fields
  unfold State.around at h
  rw [h, ← h1, ← h2, ← h4, ← h5, ← h6, ← h7, ← h8]

/-- Every proper beginning of these bytes leaves the frame Pending. -/
def PendingUntil (s : State) (bytes : List Byte) : Prop :=
  ∀ before after, bytes = before ++ after → after ≠ [] → (s.rxBytes before).rxStat = .pending

theorem pendingUntil_nil (s : State) : PendingUntil s [] := fun _ _ e h => absurd (List.append_eq_nil_iff.1 e.symm).2 h

theorem pendingUntil_one {s : State} (h : s.rxStat = .pending) (b : Byte) : PendingUntil s [b] := by
  intro before after e hne
  cases before with
  | nil => exact h
  | cons a before => exact absurd (List.append_eq_nil_iff.1 (List.cons.inj e).2.symm).2 hne

/-- An escape byte at a symbol boundary never ends a frame. -/
theorem State.rxByte_escape_stat {s : State} (h : s.rxStat = .pending) (he : s.decEsc = false) :
    (s.rxByte escByte).rxStat = .pending := by
  by_cases hd : s.decSt = .awaitStart
  · rw [State.rxByte_hunting h hd]; exact h
  · rw [State.rxByte_escape h hd he]; exact h

theorem pendingUntil_pair {s : State} (h : s.rxStat = .pending) (he : s.decEsc = false) (x : Byte) :
    PendingUntil s [escByte, x] := by
  intro before after e hne
  cases before with
  | nil => exact h
  | cons a before =>
    obtain ⟨rfl, e1⟩ := List.cons.inj e
    cases before with
    | nil => exact State.rxByte_escape_stat h he
    | cons b before =>
      have e2 : [] = before ++ after := (List.cons.inj e1).2
      exact absurd (List.append_eq_nil_iff.1 e2.symm).2 hne

theorem pendingUntil_append {s : State} {xs ys : List Byte} (hx : PendingUntil s xs) (hy : PendingUntil (s.rxBytes xs) ys) :
    PendingUntil s (xs ++ ys) := by
  intro before after e hne
  rcases List.append_eq_append_iff.1 e with ⟨c, rfl, e2⟩ | ⟨c, rfl, e2⟩
  · rw [State.rxBytes_append]; exact hy _ _ e2 hne
  · by_cases hc : c = []
    · subst hc
      rw [List.nil_append] at e2
      rw [List.append_nil] at hy
      exact hy [] ys rfl (e2 ▸ hne)
    · exact hx _ _ rfl hc

/-- The symbol read at the head of the bytes, run by exec, is the byte step on the bytes it was read from (30_encoding.md
R86, 42_decoder.md R172). -/
theorem exec_of_decodeWire {s : State} {src left : List Byte} {i : Instr}
    (h : decodeWire s.decEsc src = .instr (i, left)) :
    ∃ used, src = used ++ left ∧ used ≠ [] ∧ exec i s = .next (s.rxBytes used) ∧
      (s.rxStat = .pending → PendingUntil s used) := by
  cases src with
  | nil => cases h
  | cons r rest =>
    cases he : s.decEsc with
    | true =>
      simp only [decodeWire, he, if_true, afterEscape] at h
      split at h <;> cases h
      · rename_i hr; subst hr
        exact ⟨[startByte], rfl, by simp, rfl, fun hp => pendingUntil_one hp _⟩
      · exact ⟨[r], rfl, by simp, by rw [exec_escSymbol, State.rxEscaped_pending he]; rfl, fun hp => pendingUntil_one hp _⟩
    | false =>
      simp only [decodeWire, he, Bool.false_eq_true, if_false] at h
      split at h
      · cases h; rename_i hr; subst hr
        exact ⟨[startByte], rfl, by simp, rfl, fun hp => pendingUntil_one hp _⟩
      · split at h
        · rename_i hr; subst hr
          cases rest with
          | nil => cases h
          | cons x rest =>
            simp only [] at h
            split at h <;> cases h
            exact ⟨[escByte, x], rfl, by simp, by rw [exec_escSymbol, State.rxEscaped_boundary he],
              fun hp => pendingUntil_pair hp he _⟩
        · cases h
          exact ⟨[r], rfl, by simp, rfl, fun hp => pendingUntil_one hp _⟩

/-- A round of DECODE's loop with a Pending frame and a byte in SRC gives one or two bytes from SRC's head to the byte step
(42_decoder.md R170, R188). -/
theorem blockStep_decoding {s : State} (hp : s.port = .decoding) (hs : s.rxStat = .pending) (hsrc : s.src ≠ []) :
    ∃ used left, s.src = used ++ left ∧ used ≠ [] ∧ blockStep s = .next { s.rxBytes used with src := left } ∧
      PendingUntil s used := by
  cases hr : s.src with
  | nil => exact absurd hr hsrc
  | cons r rest =>
    unfold blockStep State.fetch
    rw [hp]
    simp only [State.fetchSymbol, if_neg (not_not.2 hs), hr]
    cases hd : decodeWire s.decEsc (r :: rest) with
    | instr x =>
      obtain ⟨i, left⟩ := x
      obtain ⟨used, h1, h2, h3, h4⟩ := exec_of_decodeWire (s := { s with src := left }) hd
      rw [State.rxBytes_src] at h3
      exact ⟨used, left, h1, h2, h3, fun b a e hne => by have := h4 hs b a e hne; rwa [State.rxBytes_src] at this⟩
    | reject why =>
      exact ⟨[r], rest, rfl, by simp, congrArg Host.Outcome.next (State.rxBytes_src s rest [r]), pendingUntil_one hs _⟩

/-- The loop ends when the frame has ended or SRC is empty (R170). -/
theorem blockStep_decodeEnd {s : State} (hp : s.port = .decoding) (h : s.rxStat ≠ .pending ∨ s.src = []) :
    blockStep s = .next s.decodeEnd := by
  unfold blockStep State.fetch
  rw [hp]
  simp only [State.fetchSymbol]
  by_cases hs : s.rxStat = .pending
  · rw [if_neg (not_not.2 hs), h.resolve_left (not_not.2 hs)]
  · rw [if_pos hs]

/-- With no reset due, the next move is made. -/
theorem step_of_move {s u : State} {e : Event} (hr : s.resetDue = false) (h : s.nextMove = (e, u)) : step s = perform e u := by
  unfold step
  rw [if_neg (by simp [hr]), h]

/-- No reset is due while a command executes. -/
theorem State.resetDue_of_busy {s : State} (h : s.port.accepts = false) : s.resetDue = false := by
  simp [State.resetDue, h]

/-- With nothing scheduled and no reset due, the block moves. -/
theorem step_of_onlyBlock {s : State} (hr : s.resetDue = false) (h : OnlyBlock s) : step s = blockStep s :=
  step_of_move hr (State.nextMove_of_idle h.1 h.2)

theorem run_zero (s : State) : run 0 s = .next s := rfl

theorem run_succ {s t : State} (k : Nat) (h : step s = .next t) : run (k + 1) s = run k t := by
  have h' : Sys2Proof.core.step s = .next t := h
  show Host.Core.run Sys2Proof.core (k + 1) s = Host.Core.run Sys2Proof.core k t
  simp only [Host.Core.run, h']

end Sys2Proof.Machine
end

