-- ==== Sys2Proof/Tests/Slice0.lean ====
section
/-! SUPPORT. The model's own tests: ill-formed terms, words written out from the spec's encodings, one step of each
instruction against the spec's examples, and a witness for the hypotheses of each statement. -/

open Sys2Proof Sys2Proof.Machine

namespace Sys2Proof.Tests

/-! ## Helpers -/

/-- Small parameters: RX_CAP = 4, TX_CAP = 4, and a sink whose flush delivers. -/
def tiny : Config := { rxCapPred := 3, txCapPred := 3, sinkFlushDelivers := true }

/-- The reset state with small parameters. -/
def base : State := { State.reset with cfg := tiny }

/-- The TX frame of R114's example: type 8A, length 2, payload 02. -/
def built : State := { base with txType := 0x8A, txLen := 0x0002, txb := [(0, 0x02)] }

/-- A frame of one payload byte with its type read: the state before the payload byte. -/
def inPayload : State :=
  { base with port := .decoding, rxType := 0x8A, rxLen := 0x0002, decSt := .payload, decAcc := 0x8A }

/-- The same frame with its payload byte 02 read: the state before the checksum. -/
def atChecksum : State := { inPayload with rxb := [(0, 0x02)], decAcc := 0x8C, decCnt := 0x0001 }

/-- After decoding 7E 00 02 8A 02 73 (R120). -/
def received : State := base.rxBytes [0x7E, 0x00, 0x02, 0x8A, 0x02, 0x73]

/-- After decoding 7E 00 02 8A 02 7A (R123). -/
def badFrame : State := base.rxBytes [0x7E, 0x00, 0x02, 0x8A, 0x02, 0x7A]

/-- The state after an outcome, if it has one. -/
def stateOf (o : Host.Outcome State Fault Refusal) : Option State :=
  match o with
  | .next s => some s
  | .fault _ => none
  | .refused _ => none

/-- The port after an outcome. -/
def portOf (o : Host.Outcome State Fault Refusal) : Option Port := (stateOf o).map State.port

/-- A response OK with a result. -/
def ok (v : Word) : Option Port := some (.responded ⟨.ok, v⟩)

/-! ## Ill-formed terms -/

theorem test_wf_data_start : (Instr.wireData 0x7E).wf = false := by decide
theorem test_wf_data_escape : (Instr.wireData 0x7D).wf = false := by decide
theorem test_wf_other_start : (Instr.wireEscOther 0x7E).wf = false := by decide
theorem test_wf_other_5E : (Instr.wireEscOther 0x5E).wf = false := by decide
theorem test_wf_other_5D : (Instr.wireEscOther 0x5D).wf = false := by decide
theorem test_wf_other_31 : (Instr.wireEscOther 0x31).wf = false := by decide
theorem test_wf_other_33 : (Instr.wireEscOther 0x33).wf = false := by decide
theorem test_wf_accepts : (Instr.wireEscOther 0x7D).wf = true ∧ (Instr.wireData 0x11).wf = true ∧ Instr.decode.wf = true := by
  decide

/-! ## Words written out from R89, R95, R85 and R86 -/

theorem test_decode_tx_set_type : decodeTableWord 32 0x0100008A = some (.txSetType 0x8A) := by decide
theorem test_decode_tx_set_len : decodeTableWord 32 0x02000200 = some (.txSetLen 0x0002) := by decide
theorem test_decode_tx_write : decodeTableWord 32 0x03012302 = some (.txWrite 0x0123 0x02) := by decide
theorem test_decode_tx_csum : decodeTableWord 32 0x04FFFFFF = some .txCsum := by decide
theorem test_decode_encode : decodeTableWord 32 0x05000000 = some .encode := by decide
theorem test_decode_flush : decodeTableWord 32 0x06000000 = some .flush := by decide
theorem test_decode_decode : decodeTableWord 32 0x10000000 = some .decode := by decide
theorem test_decode_rd_status : decodeTableWord 32 0x11000000 = some .rdStatus := by decide
theorem test_decode_rd_txstat : decodeTableWord 32 0x12000000 = some .rdTxstat := by decide
theorem test_decode_tx_rd_type : decodeTableWord 32 0x20000000 = some .txRdType := by decide
theorem test_decode_tx_rd_len : decodeTableWord 32 0x21000000 = some .txRdLen := by decide
theorem test_decode_tx_rd_byte : decodeTableWord 32 0x22000300 = some (.txRdByte 0x0003) := by decide
theorem test_decode_tx_rd_csum : decodeTableWord 32 0x23000000 = some .txRdCsum := by decide
theorem test_decode_tx_verify : decodeTableWord 32 0x24000073 = some (.txVerify 0x73) := by decide
theorem test_decode_rx_rd_type : decodeTableWord 32 0x30000000 = some .rxRdType := by decide
theorem test_decode_rx_rd_len : decodeTableWord 32 0x31000000 = some .rxRdLen := by decide
theorem test_decode_rx_rd_byte : decodeTableWord 32 0x32000100 = some (.rxRdByte 0x0001) := by decide
theorem test_decode_rx_rd_csum : decodeTableWord 32 0x33000000 = some .rxRdCsum := by decide
theorem test_decode_rx_verify : decodeTableWord 32 0x340000F8 = some (.rxVerify 0xF8) := by decide
theorem test_decode_wire_start : decodeTableWord 8 0x7E = some .wireStart := by decide
theorem test_decode_wire_esc_7e : decodeTableWord 16 0x7D5E = some .wireEsc7E := by decide
theorem test_decode_wire_esc_7d : decodeTableWord 16 0x7D5D = some .wireEsc7D := by decide
theorem test_decode_wire_esc_11 : decodeTableWord 16 0x7D31 = some .wireEsc11 := by decide
theorem test_decode_wire_esc_13 : decodeTableWord 16 0x7D33 = some .wireEsc13 := by decide
theorem test_decode_wire_esc_other : decodeTableWord 16 0x7D41 = some (.wireEscOther 0x41) := by decide
theorem test_decode_wire_data : decodeTableWord 8 0x8A = some (.wireData 0x8A) := by decide

/-- R90: the first and last opcode of each unassigned range. -/
theorem test_decode_unassigned :
    [0x00, 0x07, 0x0F, 0x13, 0x1F, 0x25, 0x2F, 0x35, 0xFF].all
      (fun op => decodeTableWord 32 (op * 0x1000000) == none) = true := by decide

/-- An escape byte with no data byte, or with a raw START after it, is no symbol (R86, R172). -/
theorem test_decode_wire_rejects : decodeTableWord 8 0x7D = none ∧ decodeTableWord 16 0x7D7E = none := by decide

/-- R95's comma, blanks, comment and hexadecimal forms; an operand R95 does not allow is rejected. -/
theorem test_assemble : assemble "TX_WRITE    0, 0x02     ; A = 0, B = 0x02" = some 0x03000002 ∧
    assemble "TX_SET_LEN" = none ∧ assemble "TX_CSUM 1" = none ∧ assemble "TX_VERIFY 256" = none := by decide

/-! ## Every row of the table runs as the first instruction after reset -/

/-- The rows as (bits, word), operands zero where a row has operands; the open bytes as in the tests above. -/
def rows : List (Nat × Nat) :=
  [(32, 0x01000000), (32, 0x02000000), (32, 0x03000000), (32, 0x04000000), (32, 0x05000000), (32, 0x06000000),
    (32, 0x10000000), (32, 0x11000000), (32, 0x12000000), (32, 0x20000000), (32, 0x21000000), (32, 0x22000000),
    (32, 0x23000000), (32, 0x24000000), (32, 0x30000000), (32, 0x31000000), (32, 0x32000000), (32, 0x33000000)]
  ++ [(32, 0x34000000), (8, 0x7E), (16, 0x7D5E), (16, 0x7D5D), (16, 0x7D31), (16, 0x7D33), (16, 0x7D41), (8, 0x00)]

theorem test_every_row_runs : rows.all (fun row => (stateOf (step (base.withFetchWord row.1 row.2))).isSome) = true := by
  decide

theorem test_fetch_word_runs_start :
    (stateOf (step (base.withFetchWord 8 0x7E))).map State.decSt = some .lenMsb := by decide

/-- The cycle comes round again, and a byte arrives before each turn. -/
theorem test_cycle_comes_round :
    (stateOf (run 4 { base with port := .decoding, later := .cycle [.arrive 0x00, .turn] })).map (fun t => (t.port, t.src, t.sched)) =
      some (.decoding, [], []) := by decide

/-! ## One step of each instruction, from the rules' examples -/

theorem test_tx_set_type : (stateOf (exec (.txSetType 0x8A) base)).map State.txType = some 0x8A ∧
    portOf (exec (.txSetType 0x8A) base) = ok 0 := by decide
theorem test_tx_set_len : (stateOf (exec (.txSetLen 2) base)).map State.txLen = some 0x0002 := by decide
theorem test_tx_set_len_bad : portOf (exec (.txSetLen 6) base) = some (.responded ⟨.badLength, 0⟩) ∧
    portOf (exec (.txSetLen 5) base) = ok 0 := by decide
theorem test_tx_write : (stateOf (exec (.txWrite 0 0x02) { base with txLen := 2 })).map State.txb = some [(0, 0x02)] := by
  decide
theorem test_tx_write_bad : portOf (exec (.txWrite 1 0x00) { base with txLen := 2 }) = some (.responded ⟨.badIndex, 0⟩) := by
  decide
theorem test_tx_csum : portOf (exec .txCsum built) = ok 0x00000073 := by decide
theorem test_tx_csum_stores : (stateOf (exec .txCsum built)).map (fun t => (t.txCsum, t.txCsv)) = some (0x73, true) := by
  decide
theorem test_encode : portOf (exec .encode { built with txCsum := 0x73, txCsv := true }) =
    some (.encoding [0x7E, 0x00, 0x02, 0x8A, 0x02, 0x73] 6) := by decide
theorem test_encode_reset_frame : portOf (exec .encode base) = some (.encoding [0x7E, 0x00, 0x00, 0x00, 0xFF] 5) := by decide
theorem test_encode_writes : (stateOf (step { base with port := .encoding [0x7E, 0x00] 5 })).map (fun t => (t.snk, t.port)) =
    some ([0x7E], .encoding [0x00] 5) := by decide
theorem test_encode_responds : portOf (step { base with port := .encoding [] 6 }) = ok 6 := by decide
theorem test_flush : (stateOf (exec .flush { base with snk := [0x7E, 0x00] })).map (fun t => (t.snk, t.link, t.flushCalls)) =
    some ([], [0x7E, 0x00], 1) := by decide
theorem test_decode_clears : (stateOf (exec .decode received)).map (fun t => (t.status, t.port)) = some (0, .decoding) := by decide
theorem test_decode_empty_source : portOf (step { base with port := .decoding }) = ok 0 := by decide
theorem test_rd_status : portOf (exec .rdStatus received) = ok 0x0001FF41 := by decide
theorem test_rd_txstat : portOf (exec .rdTxstat { built with txCsv := true }) = ok 1 := by decide
theorem test_tx_rd_type : portOf (exec .txRdType built) = ok 0x0000008A := by decide
theorem test_tx_rd_len : portOf (exec .txRdLen built) = ok 0x00000002 := by decide
theorem test_tx_rd_byte : portOf (exec (.txRdByte 0) built) = ok 0x00000002 := by decide
theorem test_tx_rd_byte_bad : portOf (exec (.txRdByte 1) built) = some (.responded ⟨.badIndex, 0⟩) := by decide
theorem test_tx_rd_csum : portOf (exec .txRdCsum { built with txCsum := 0x73 }) = ok 0x00000073 := by decide
theorem test_tx_verify : portOf (exec (.txVerify 0x73) built) = ok 1 ∧ portOf (exec (.txVerify 0x7A) built) = ok 0 := by decide
theorem test_rx_rd_type : portOf (exec .rxRdType received) = ok 0x0000008A := by decide
theorem test_rx_rd_len : portOf (exec .rxRdLen received) = ok 0x00000002 := by decide
theorem test_rx_rd_byte : portOf (exec (.rxRdByte 0) received) = ok 0x00000002 := by decide
theorem test_rx_rd_byte_bad : portOf (exec (.rxRdByte 1) received) = some (.responded ⟨.badIndex, 0⟩) := by decide
theorem test_rx_rd_csum : portOf (exec .rxRdCsum badFrame) = ok 0x0000007A ∧ badFrame.rxErr = .checksumFailure := by decide
theorem test_rx_verify :
    portOf (exec (.rxVerify 0xF8) (base.rxBytes [0x7E, 0x00, 0x02, 0x8A, 0x7D, 0x5D, 0xF8])) = ok 1 := by decide
theorem test_rx_verify_fails : portOf (exec (.rxVerify 0x7A) badFrame) = ok 0 := by decide
theorem test_wire_start_unexpected : (stateOf (exec .wireStart { inPayload with decEsc := true })).map
    (fun t => (t.rxStat, t.rxErr, t.decEsc)) = some (.errored, .unexpectedStart, true) := by decide
theorem test_wire_esc_7e : (stateOf (exec .wireEsc7E inPayload)).map (fun t => (t.rxb, t.decCnt)) = some ([(0, 0x7E)], 1) := by
  decide
theorem test_wire_esc_7d : (stateOf (exec .wireEsc7D inPayload)).map State.rxb = some [(0, 0x7D)] := by decide
theorem test_wire_esc_7d_hunting : (stateOf (exec .wireEsc7D base)).map (fun t => (t.decEsc, t.decSt)) =
    some (false, .awaitStart) := by decide
theorem test_wire_esc_11 : (stateOf (exec .wireEsc11 inPayload)).map State.rxb = some [(0, 0x11)] := by decide
theorem test_wire_esc_13 : (stateOf (exec .wireEsc13 inPayload)).map State.rxb = some [(0, 0x13)] := by decide
theorem test_wire_esc_other : (stateOf (exec (.wireEscOther 0x41) inPayload)).map State.rxb = some [(0, 0x61)] := by decide
theorem test_wire_esc_other_7d : (stateOf (exec (.wireEscOther 0x7D) inPayload)).map State.rxb = some [(0, 0x5D)] := by decide
theorem test_wire_data : (stateOf (exec (.wireData 0x11) inPayload)).map State.rxb = some [(0, 0x11)] := by decide
theorem test_wire_data_checksum : (stateOf (exec (.wireData 0x73) atChecksum)).map (fun t => (t.rxStat, t.decAcc)) =
    some (.ready, 0xFF) := by decide

/-! ## Witnesses: the hypotheses of the statements can be met, clause by clause -/

/-- The states that the invariants are shown of. -/
theorem witness_rxInv_base : RxInv base := by
  refine ⟨by decide, by decide, ?_⟩
  show BeforeType base ∧ _
  unfold BeforeType
  decide

theorem witness_rxInv_lenLsb : RxInv { base with decSt := .lenLsb, rxLen := 0x0100 } := by
  refine ⟨by decide, by decide, ?_⟩
  show BeforeType _ ∧ _
  unfold BeforeType
  decide

theorem witness_rxInv_atChecksum : RxInv atChecksum ∧ atChecksum.decCnt = plen atChecksum.rxLen := by
  refine ⟨⟨by decide, by decide, ?_⟩, by decide⟩
  show _ ∧ BeforeChecksum _
  unfold BeforeChecksum
  decide

theorem witness_rxInv_received : RxInv received ∧ received.rxStat = .ready := by
  refine ⟨⟨by decide, by decide, ?_⟩, by decide⟩
  show _ ∧ AfterChecksum _ ∧ _
  unfold AfterChecksum
  decide

theorem witness_rxInv_badFrame : RxInv badFrame ∧ badFrame.rxErr = .checksumFailure := by
  refine ⟨⟨by decide, by decide, ?_⟩, by decide⟩
  show _ ∧ AfterChecksum _ ∧ _
  unfold AfterChecksum
  decide

theorem witness_txInv_base : TxInv base ∧ base.txCsv = false := by
  unfold TxInv
  decide

theorem witness_codecInv_received : CodecInv received ∧ received.rxStat = .ready :=
  ⟨⟨by unfold MemInv; decide, by unfold TxInv; decide, witness_rxInv_received.1, trivial⟩, by decide⟩

/-- The opcode hypotheses: one word for each opcode, with every ignored field set. -/
theorem witness_opField : [0x01, 0x02, 0x03, 0x04, 0x05, 0x06, 0x10, 0x11, 0x12, 0x20, 0x21, 0x22, 0x23, 0x24, 0x30, 0x31, 0x32,
    0x33, 0x34].all (fun op => opField (cmdWord op 0xFFFF 0xFF) == op) = true := by decide

theorem witness_DecodeInvertsEncode : (Instr.wireEscOther 0x41).wf = true ∧ (Instr.txWrite 0xFFFF 0xFF).wf = true := by decide

theorem witness_EncodeZeroesIgnoredFields : decodeCmd 0x04FFFFFF = .instr .txCsum ∧
    decodeCmd 0x03FFFFFF = .instr (.txWrite 0xFFFF 0xFF) := by decide

/-- The three ways in which the block moves next. -/
theorem witness_blockMoves : BlockMoves base base ∧ BlockMoves { base with sched := [.turn] } base ∧
    BlockMoves { base with later := .cycle [.turn, .drain] } { base with later := .cycle [.turn, .drain], sched := [.drain] } ∧
    OnlyBlock base := by
  unfold BlockMoves OnlyBlock
  decide

theorem witness_UnassignedOpcodesAnswerBadOpcode : decodeCmd 0x07FFFFFF = .reject .unassignedOpcode ∧
    BlockMoves { base with port := .issued 0x07FFFFFF, sched := [.turn] } { base with port := .issued 0x07FFFFFF } := by
  unfold BlockMoves
  decide

theorem witness_IgnoredFieldsChangeNothing : (0x04 : Byte) ∉ ([0x02, 0x03, 0x22, 0x32] : List Byte) ∧
    (0x02 : Byte) ∉ ([0x01, 0x03, 0x24, 0x34] : List Byte) := by decide

theorem witness_WireSymbolsAreClassified : (0x11 : Byte) ≠ 0x7E ∧ (0x11 : Byte) ≠ 0x7D ∧ (0x7D : Byte) ≠ 0x7E := by decide

theorem witness_EscapeRemovalInvertsStuffing : reserved 0x7E = true ∧ reserved 0x7F = false ∧
    inPayload.rxStat = .pending ∧ inPayload.decSt ≠ .awaitStart ∧ inPayload.decEsc = false := by decide

theorem witness_EncoderSendsNoRawReservedByte :
    enc 0x7D 0x0002 [0x7E] 0x04 = 0x7E :: ([0x00, 0x02] ++ 0x7D :: [0x5D, 0x7D, 0x5E, 0x04]) := by decide

theorem witness_EncodedLengthLaw : ([0x7E, 0x7E, 0x7E, 0x7E] : List Byte).length ≤ tiny.txCap := by decide

theorem witness_ChecksumLaws : (0x00 : Byte) ≠ 0xFF ∧ sum8 0xFF [] = 0xFF ∧ sum8 0x01 [0xFF] = 0x00 ∧
    ([0x01, 0x02] : List Byte).Perm [0x02, 0x01] :=
  ⟨by decide, by decide, by decide, List.Perm.swap ..⟩

theorem witness_TxSetLenSizesThePayload : (plen 0x0005).toNat ≤ base.cfg.txCap ∧ base.cfg.txCap < (plen 0x0006).toNat ∧
    base.cfg.txCap < (plen 0xFFFF).toNat := by decide

theorem witness_TxWriteStoresOneByte : (0x0000 : Half) < plen built.txLen ∧ plen built.txLen ≤ (0x0001 : Half) ∧
    plen built.txLen ≤ (0xFFFF : Half) := by decide

theorem witness_TxRdByteAnswersTheByte : (0x0000 : Half) < plen built.txLen ∧ plen built.txLen ≤ (0x0001 : Half) ∧
    built.txb.read 1 = none := by decide

theorem witness_RxRegisterReads : atChecksum.rxStat ≠ .ready ∧ atChecksum.rxErr ≠ .checksumFailure ∧
    base.decSt ≠ .payload := by decide

theorem witness_RxRdByteAnswersTheByte : (0x0000 : Half) < received.decCnt ∧ received.decCnt ≤ (0x0001 : Half) := by decide

theorem witness_EncodeWritesTheFrame : OnlyBlock built ∧ built.resetPending = false := by
  unfold OnlyBlock
  decide

theorem witness_FlushAsksTheSink : built.cfg.sinkFlushDelivers = true := by decide

theorem witness_DecodeClearsOnlyATerminalFrame : base.rxStat = .pending ∧ received.rxStat ≠ .pending := by decide

theorem witness_DecodeConsumesUpToOneFrame : OnlyBlock { received with src := [0x7E] } ∧
    received.resetPending = false := by
  unfold OnlyBlock
  decide

theorem witness_ArrivalPatternDoesNotMatter :
    ({ base with port := .decoding, sched := [.arrive 0x7E, .turn] } : State).port = .decoding ∧
    OnlyArrivals [.arrive 0x7E, .turn] :=
  ⟨rfl, fun e he => by
    rcases List.mem_cons.1 he with rfl | he
    · exact .inr ⟨_, rfl⟩
    · exact .inl (List.mem_singleton.1 he)⟩

theorem witness_SplitArrivalGivesTheSameFrame : ∃ (s t t1 u t2 : State) (a b : List Byte) (k k1 k2 : Nat) (v v1 v2 : Response),
    s.port = .decoding ∧ OnlyBlock s ∧ s.resetPending = false ∧
    run k { s with src := a ++ b } = .next t ∧ t.port = .responded v ∧
    run k1 { s with src := a } = .next t1 ∧ t1.port = .responded v1 ∧ t1.rxStat = .pending ∧
    exec .decode { t1 with src := b } = .next u ∧ run k2 u = .next t2 ∧ t2.port = .responded v2 :=
  ⟨{ base with port := .decoding }, _, _, _, _, [0x7E, 0x7D], [0x31], 3, 3, 2, _, _, _,
    rfl, ⟨rfl, rfl⟩, rfl, rfl, rfl, rfl, rfl, rfl, rfl, rfl, rfl⟩

/-- A hunting DECODE under a source that never runs dry (R253). -/
def hanging : State := { base with port := .decoding, later := .cycle [.arrive 0x00, .turn] }

theorem witness_DecodeDoesNotEndEarly_hang : hanging.port = .decoding ∧ hanging.rxStat = .pending ∧ hanging.decSt = .awaitStart ∧
    0x7E ∉ hanging.src ∧ (0x00 : Byte) ≠ 0x7E ∧ hanging.sched = [] := by decide

theorem witness_DecodeDoesNotEndEarly_turn : ∃ u t : State, BlockMoves { base with port := .decoding, src := [0x00] } u ∧
    step { base with port := .decoding, src := [0x00] } = .next t :=
  ⟨_, _, rfl, rfl⟩

theorem witness_DecodeDoesNotEndEarly_response : opField 0x05000000 ≠ 0x10 ∧ (plen built.txLen).toNat ≤ built.cfg.txCap ∧
    3 + 2 * (4 + built.cfg.txCap) ≤ turns (.drain :: List.replicate 19 .turn) ∧
    ∀ c, Event.command c ∉ (.drain :: List.replicate 19 .turn : List Event) :=
  ⟨by decide, by decide, by decide, fun c hc => by simp [List.mem_replicate] at hc⟩

theorem witness_WireStartBeginsOrAborts : base.rxStat = .pending ∧ base.decSt = .awaitStart ∧ inPayload.rxStat = .pending ∧
    inPayload.decSt ≠ .awaitStart := by decide

theorem witness_EscapePairsStandForTheirByte : inPayload.decEsc = false ∧ base.decEsc = false ∧
    (Instr.wireEscOther 0x41).wf = true ∧ (Instr.wireData 0x13).wf = true := by decide

theorem witness_PendingEscapeTakesTheNextByte : ({ inPayload with decEsc := true } : State).rxStat = .pending ∧
    ({ inPayload with decEsc := true } : State).decSt ≠ .awaitStart ∧ (0x7D : Byte) ≠ 0x7E ∧ (0x11 : Byte) ≠ 0x7D := by
  decide

theorem witness_EndedFrameTakesNoSymbol : received.rxStat ≠ .pending ∧ Instr.wireStart.isCommand = false := by decide

theorem witness_HeaderBytesFillLengthAndType : ({ base with decSt := .lenMsb } : State).rxStat = .pending ∧
    ({ base with decSt := .lenLsb } : State).decEsc = false ∧ ({ base with decSt := .frameType } : State).decSt = .frameType := by
  decide

theorem witness_PayloadBytesAreStoredOrOverflow : inPayload.decCnt ≠ plen inPayload.rxLen ∧
    inPayload.decCnt.toNat ≠ inPayload.cfg.rxCap ∧
    ({ inPayload with rxLen := 0x0006, decCnt := 0x0004 } : State).decCnt ≠ plen 0x0006 ∧
    ({ inPayload with rxLen := 0x0006, decCnt := 0x0004 } : State).decCnt.toNat = inPayload.cfg.rxCap := by decide

theorem witness_ChecksumByteEndsTheFrame : atChecksum.decCnt = plen atChecksum.rxLen ∧ atChecksum.decAcc + 0x73 = 0xFF ∧
    atChecksum.decAcc + 0x7A ≠ 0xFF := by decide

theorem witness_PayloadIsComplete : atChecksum.decSt = .payload ∧ atChecksum.decCnt = plen atChecksum.rxLen ∧
    atChecksum.decEsc = false ∧ atChecksum.rxStat = .pending := by decide

theorem witness_EscapeByteSetsDecEsc : ({ inPayload with src := [0x7D] } : State).src = 0x7D :: [] ∧
    ({ inPayload with src := [0x7D, 0x7E] } : State).src = 0x7D :: 0x7E :: [] ∧ inPayload.port = .decoding ∧
    inPayload.sched = [] := by decide

theorem witness_TerminalFrameIsKept : received.rxStat ≠ .pending ∧
    (stateOf (step { received with port := .issued 0x11000000 })).isSome = true := by decide

theorem witness_StepRunsTheIssuedCommand : decodeCmd 0x11000000 = .instr .rdStatus ∧
    ({ base with port := .issued 0x11000000, sched := [.turn] } : State).sched = .turn :: [] := by decide

theorem witness_StepRunsTheWireSymbol : decodeWire false [0x7D, 0x5E, 0x00] = .instr (.wireEsc7E, [0x00]) ∧
    decodeWire true [0x7D, 0x00] = .instr (.wireEscOther 0x7D, [0x00]) := by decide

theorem witness_CommandsAreIssuedOneAtATime :
    (stateOf (step { base with sched := [.command 0x11000000] })).isSome = true ∧
    (stateOf (step { base with port := .issued 0x11000000, sched := [.command 0x11000000] })).isSome = false := by decide

theorem witness_EnvironmentsMoveOnlyTheQueues :
    ({ base with snk := [0x7E], sched := [.drain] } : State).resetDue = false ∧
    ({ base with sched := [.arrive 0x7E] } : State).resetDue = false := by decide

theorem witness_ResetWritesTheResetValues : ({ built with sched := [.reset] } : State).port = .idle ∧
    built.resetPending = false := by decide

theorem witness_ResetWaitsForTheResponse : ({ inPayload with sched := [.reset] } : State).port = .decoding ∧
    ({ built with resetPending := true, port := .responded ⟨.ok, 0⟩ } : State).resetPending = true := by decide

theorem witness_CommandErrorsArePrecise : portOf (exec (.txWrite 1 0x00) built) = some (.responded ⟨.badIndex, 0⟩) ∧
    (Instr.txWrite 1 0x00).isCommand = true ∧ RespCode.badIndex ≠ .ok := by decide

theorem witness_FramesAreKeptApart : (stateOf (exec .rdStatus built)).isSome = true ∧ Instr.rdStatus.isCommand = true := by
  decide

/-- OnlyDecodeReadsAndOnlyEncodeWrites: witness_blockMoves gives the turns, these are the ports. -/
theorem witness_OnlyDecodeReadsAndOnlyEncodeWrites :
    (stateOf (step { base with port := .encoding [0x7E] 5 })).isSome = true ∧
    (stateOf (step { base with port := .issued 0x10000000 })).isSome = true ∧ opField 0x10000000 ≠ 0x06 := by decide

/-- For ParametersAreFixed, ChecksumSetFlagIsClearedByResetOnly and EveryStepKeepsTheInvariant: steps of each kind. -/
theorem witness_steps : (stateOf (step { received with sched := [.reset] })).map State.draws = some 1 ∧
    (stateOf (step { built with txCsv := true, sched := [.reset] })).map State.txCsv = some false ∧
    (stateOf (step { built with port := .issued 0x05000000 })).map State.txCsv = some true := by decide

theorem witness_RoundTripGivesTheFrameBack : (0x73 : Byte) = chk built.txType built.txPayload ∧
    (plen built.txLen).toNat ≤ base.cfg.rxCap ∧ base.rxStat = .pending ∧ base.decSt = .awaitStart ∧
    State.txWire { built with txCsum := 0x73 } = [0x7E, 0x00, 0x02, 0x8A, 0x02, 0x73] := by decide

theorem witness_OversizeFrameOverflows : ([1, 2, 3, 4, 5] : List Byte).length = (plen 0x0006).toNat ∧
    base.cfg.rxCap < ([1, 2, 3, 4, 5] : List Byte).length := by decide

theorem witness_CorruptedPayloadByteIsDetected : ([] ++ 0x02 :: [] : List Byte).length = (plen 0x0002).toNat ∧
    ([] ++ 0x02 :: [] : List Byte).length ≤ base.cfg.rxCap ∧ reserved 0x02 = false ∧ (0x7E : Byte) ≠ 0x02 ∧
    (0x03 : Byte) ≠ 0x02 := by decide

theorem witness_DecoderResynchronises : received.rxStat ≠ .pending ∧ (0x7E : Byte) ∉ ([0x00, 0x7D] : List Byte) ∧
    ([0x02] : List Byte).length = (plen 0x0002).toNat ∧ ([0x02] : List Byte).length ≤ received.cfg.rxCap := by decide

theorem witness_StaleChecksumIsDetected : ∃ s s1 s2 : State, s.txCsv = true ∧ s.txCsum = chk s.txType s.txPayload ∧
    (0x0000 : Half) < plen s.txLen ∧ s.txbAt 0 ≠ 0x03 ∧ exec (.txWrite 0x0000 0x03) s = .next s1 ∧ exec .encode s1 = .next s2 ∧
    (plen s.txLen).toNat ≤ base.cfg.rxCap :=
  ⟨{ built with txCsum := 0x73, txCsv := true }, _, _, by decide, by decide, by decide, by decide, rfl, rfl, by decide⟩

theorem witness_TxBuildBuildsTheFrame : ([0x02, 0x7E, 0x11, 0x13] : List Byte).length ≤ base.cfg.txCap ∧
    txBuild 0x8A [0x02] = [.txSetType 0x8A, .txSetLen 2] ++ .txWrite 0 0x02 :: [.txCsum] := by decide

end Sys2Proof.Tests
end

/-! PROOF. What no instruction, no turn of the block and no environment's move touches (`SameRest`: the parameters, the
draws, the reset latch and the schedule), and that only reset draws the buffers anew (00_scope.md R8, 10_state.md R24). -/

namespace Sys2Proof.Machine

/-! ### Operations -/

theorem SameRest.refl (s : State) : SameRest s s := ⟨rfl, rfl, rfl, rfl, rfl⟩

/-- The port is none of the rest. -/
theorem SameRest.with_port {s t : State} (h : SameRest s t) (p : Port) : SameRest s { t with port := p } := h

theorem SameRest.respond {s t : State} (h : SameRest s t) (rc : RespCode) (val : Word) :
    SameRest s (t.respond rc val) := h.with_port _

/-- The decoder's byte step leaves the rest alone. -/
theorem OnlyRxSide.sameRest {s t : State} (h : OnlyRxSide s t) : SameRest s t := by
  obtain ⟨hcfg, hdraws, -, -, -, -, -, -, hlatch, -, -, -, -, hsched, hlater⟩ := h.fields
  exact ⟨hcfg, hdraws, hlatch, hsched, hlater⟩

/-- An escape pair, with or without a pending escape, differs on the receive side only. -/
theorem State.rxEscaped_onlyRxSide (s : State) (x : Byte) : OnlyRxSide s (s.rxEscaped x) := by
  cases he : s.decEsc with
  | false => rw [State.rxEscaped_boundary he]; exact State.rxBytes_onlyRxSide s _
  | true => rw [State.rxEscaped_pending he]; exact State.rxByte_onlyRxSide s x

theorem State.storeTxCsum_sameRest (s : State) : SameRest s s.storeTxCsum := by
  simp [SameRest]

theorem State.ensureTxCsum_sameRest (s : State) : SameRest s s.ensureTxCsum := by
  unfold State.ensureTxCsum
  split
  · exact SameRest.refl s
  · exact s.storeTxCsum_sameRest

theorem State.encodeTick_sameRest (s : State) (todo : List Byte) (total : Nat) :
    SameRest s (s.encodeTick todo total) := by
  cases todo <;> exact ⟨rfl, rfl, rfl, rfl, rfl⟩

theorem State.sinkDrain_sameRest (s : State) : SameRest s s.sinkDrain := by
  unfold State.sinkDrain
  split <;> exact ⟨rfl, rfl, rfl, rfl, rfl⟩

/-- Asserting reset keeps the parameters, applied at once or latched (70_reset_and_hazards.md R241). -/
@[simp] theorem State.assertReset_cfg (s : State) : s.assertReset.cfg = s.cfg := by
  unfold State.assertReset
  split <;> rfl

/-! ### Instructions -/

/-- No instruction touches the parameters, the draws, the reset latch or the schedule. -/
theorem exec_sameRest {i : Instr} {s t : State} (h : exec i s = .next t) : SameRest s t := by
  cases i with
  | txSetType | flush | rdStatus | rdTxstat | txRdType | txRdLen | txRdCsum | txVerify
  | rxRdType | rxRdLen | rxRdCsum | rxVerify =>
    cases h; exact ⟨rfl, rfl, rfl, rfl, rfl⟩
  | txSetLen | txWrite | txRdByte | rxRdByte | decode =>
    cases h; split <;> exact ⟨rfl, rfl, rfl, rfl, rfl⟩
  | txCsum => cases h; exact s.storeTxCsum_sameRest.respond _ _
  | encode => cases h; exact s.ensureTxCsum_sameRest.with_port _
  | wireStart | wireData => cases h; exact (s.rxByte_onlyRxSide _).sameRest
  | wireEsc7E | wireEsc7D | wireEsc11 | wireEsc13 | wireEscOther =>
    cases h; exact (s.rxEscaped_onlyRxSide _).sameRest

/-! ### The block's turn, by what the port is doing (30_encoding.md R94) -/

/-- Between commands the block's turn changes nothing. -/
theorem blockStep_of_accepts {s : State} (hp : s.port.accepts = true) : blockStep s = .next s := by
  unfold blockStep State.fetch
  cases h : s.port with
  | idle | responded => rfl
  | issued | decoding | encoding => rw [h] at hp; cases hp

/-- An issued word that decodes is run. -/
theorem blockStep_of_issued {s : State} {w : Word} {i : Instr} (hp : s.port = .issued w)
    (hd : decodeCmd w = .instr i) : blockStep s = exec i s := by
  simp [blockStep, State.fetch, hp, State.fetchCommand, hd]

/-- An issued word that the decoder rejects is answered BAD_OPCODE (R90). -/
theorem blockStep_of_rejected {s : State} {w : Word} {why : Reject} (hp : s.port = .issued w)
    (hd : decodeCmd w = .reject why) : blockStep s = .next (s.raiseCmdError .badOpcode) := by
  simp [blockStep, State.fetch, hp, State.fetchCommand, hd]

/-- ENCODE's write loop makes its next tick (41_encoder.md R150). -/
theorem blockStep_of_encoding {s : State} {todo : List Byte} {total : Nat} (hp : s.port = .encoding todo total) :
    blockStep s = .next (s.encodeTick todo total) := by
  simp [blockStep, State.fetch, hp]

/-- A round of DECODE's loop, on whichever of its ends, leaves the rest alone. -/
theorem blockStep_decoding_sameRest {s t : State} (hp : s.port = .decoding) (h : blockStep s = .next t) :
    SameRest s t := by
  by_cases hread : s.rxStat = .pending ∧ s.src ≠ []
  · obtain ⟨used, left, -, -, hb, -⟩ := blockStep_decoding hp hread.1 hread.2
    cases hb.symm.trans h
    exact (s.rxBytes_onlyRxSide used).sameRest
  · have hend : s.rxStat ≠ .pending ∨ s.src = [] := by rwa [not_and_or, not_not] at hread
    cases (blockStep_decodeEnd hp hend).symm.trans h
    exact SameRest.refl s

/-- No turn of the block touches the parameters, the draws, the reset latch or the schedule. -/
theorem blockStep_sameRest {s t : State} (h : blockStep s = .next t) : SameRest s t := by
  cases hp : s.port with
  | idle | responded =>
    cases (blockStep_of_accepts (by rw [hp]; rfl)).symm.trans h
    exact SameRest.refl s
  | issued w =>
    cases hd : decodeCmd w with
    | instr i => exact exec_sameRest ((blockStep_of_issued hp hd).symm.trans h)
    | reject why =>
      cases (blockStep_of_rejected hp hd).symm.trans h
      exact SameRest.refl s
  | encoding todo total =>
    cases (blockStep_of_encoding hp).symm.trans h
    exact s.encodeTick_sameRest todo total
  | decoding => exact blockStep_decoding_sameRest hp h

/-! ### Moves and steps (10_state.md R20) -/

/-- The host issues a word only where the port accepts one, and only the port changes. -/
theorem hostStep_next {w : Word} {s t : State} (h : hostStep w s = .next t) :
    s.port.accepts = true ∧ t = { s with port := .issued w } := by
  unfold hostStep at h
  split at h <;> cases h
  exact ⟨‹_›, rfl⟩

/-- No move but reset touches the parameters, the draws, the reset latch or the rest of the schedule. -/
theorem perform_sameRest {e : Machine.Event} {s t : State} (he : e ≠ .reset) (h : perform e s = .next t) :
    SameRest s t := by
  cases e with
  | turn => exact blockStep_sameRest h
  | command w =>
    obtain ⟨-, rfl⟩ := hostStep_next h
    exact SameRest.refl s
  | arrive b => cases h; exact SameRest.refl s
  | drain => cases h; exact s.sinkDrain_sameRest
  | reset => exact absurd rfl he

/-- What one step can do: apply a reset that is due, assert reset, or make another move of the schedule. -/
theorem step_cases {s t : State} (h : step s = .next t) :
    (s.resetDue = true ∧ t = s.applyReset) ∨
    (s.resetDue = false ∧ s.nextMove.1 = .reset ∧ t = s.nextMove.2.assertReset) ∨
    (s.resetDue = false ∧ s.nextMove.1 ≠ .reset ∧ perform s.nextMove.1 s.nextMove.2 = .next t) := by
  cases hdue : s.resetDue with
  | true =>
    rw [step, if_pos hdue] at h
    cases h
    exact .inl ⟨rfl, rfl⟩
  | false =>
    have hmove : perform s.nextMove.1 s.nextMove.2 = .next t := (step_of_move hdue rfl).symm.trans h
    by_cases he : s.nextMove.1 = .reset
    · rw [he] at hmove
      cases hmove
      exact .inr (.inl ⟨rfl, he, rfl⟩)
    · exact .inr (.inr ⟨rfl, he, hmove⟩)

/-- Settles O51: a reset that is due or asserted keeps the parameters, and every other move keeps the draws too. -/
theorem parametersAreFixed : Obligations.ParametersAreFixed := by
  intro s t h
  obtain ⟨hdue, rfl⟩ | ⟨-, hreset, rfl⟩ | ⟨-, hother, hmove⟩ := step_cases h
  · exact ⟨rfl, fun _ => .inl hdue⟩
  · exact ⟨by simp, fun _ => .inr ⟨s.nextMove.2, Prod.ext hreset rfl⟩⟩
  · obtain ⟨hcfg, hdraws, -, -, -⟩ := perform_sameRest hother hmove
    rw [State.nextMove_cfg] at hcfg
    rw [State.nextMove_draws] at hdraws
    exact ⟨hcfg, fun hne => absurd hdraws hne⟩

end Sys2Proof.Machine

/-! PROOF. Which frame an instruction touches (10_state.md R40), and who writes TX_CSV (R26). -/

namespace Sys2Proof.Machine

/-! ### The frames, operation by operation -/

theorem SameTx.refl (s : State) : SameTx s s := ⟨rfl, rfl, rfl, rfl, fun _ => rfl⟩

theorem SameRxSide.refl (s : State) : SameRxSide s s :=
  ⟨⟨rfl, rfl, rfl, rfl, rfl, fun _ => rfl⟩, rfl, rfl, rfl, rfl⟩

theorem SameLink.refl (s : State) : SameLink s s := ⟨rfl, rfl, rfl, rfl⟩

/-- A change of the receive side leaves the TX frame, its draws included. -/
theorem OnlyRxSide.sameTx {s t : State} (h : OnlyRxSide s t) : SameTx s t := by
  rw [h]
  exact SameTx.refl s

theorem OnlyRxSide.sameLink {s t : State} (h : OnlyRxSide s t) : SameLink s t := by
  rw [h]
  exact SameLink.refl s

/-- Ensuring the checksum sets TX_CSV and writes nothing but TX_CSUM beside it (41_encoder.md R150). -/
theorem State.ensureTxCsum_eq (s : State) :
    s.ensureTxCsum = { s with txCsum := s.ensureTxCsum.txCsum, txCsv := true } := by
  unfold State.ensureTxCsum
  split
  next hset => rw [← hset]
  next => rfl

/-! ### Instructions -/

/-- The TX frame changes by its five writers only. -/
theorem exec_sameTx {i : Instr} {s t : State} (h : exec i s = .next t) (htype : ∀ b, i ≠ .txSetType b)
    (hlen : ∀ a, i ≠ .txSetLen a) (hwrite : ∀ a b, i ≠ .txWrite a b) (hcsum : i ≠ .txCsum) (hencode : i ≠ .encode) :
    SameTx s t := by
  cases i with
  | txSetType b => exact absurd rfl (htype b)
  | txSetLen a => exact absurd rfl (hlen a)
  | txWrite a b => exact absurd rfl (hwrite a b)
  | txCsum => exact absurd rfl hcsum
  | encode => exact absurd rfl hencode
  | flush | rdStatus | rdTxstat | txRdType | txRdLen | txRdCsum | txVerify
  | rxRdType | rxRdLen | rxRdCsum | rxVerify => cases h; exact SameTx.refl s
  | txRdByte | rxRdByte | decode => cases h; split <;> exact SameTx.refl s
  | wireStart | wireData => cases h; exact (s.rxByte_onlyRxSide _).sameTx
  | wireEsc7E | wireEsc7D | wireEsc11 | wireEsc13 | wireEscOther => cases h; exact (s.rxEscaped_onlyRxSide _).sameTx

/-- Of the commands only DECODE changes the RX frame or the decoder. -/
theorem exec_sameRxSide {i : Instr} {s t : State} (h : exec i s = .next t) (hcmd : i.isCommand = true)
    (hdecode : i ≠ .decode) : SameRxSide s t := by
  cases i with
  | decode => exact absurd rfl hdecode
  | txSetType | txCsum | flush | rdStatus | rdTxstat | txRdType | txRdLen | txRdCsum | txVerify
  | rxRdType | rxRdLen | rxRdCsum | rxVerify => cases h; exact SameRxSide.refl s
  | txSetLen | txWrite | txRdByte | rxRdByte => cases h; split <;> exact SameRxSide.refl s
  | encode => cases h; rw [State.ensureTxCsum_eq]; exact SameRxSide.refl s
  | wireStart | wireEsc7E | wireEsc7D | wireEsc11 | wireEsc13 | wireEscOther | wireData => cases hcmd

/-- Only FLUSH acts on the source or the sink in its own step. -/
theorem exec_sameLink {i : Instr} {s t : State} (h : exec i s = .next t) (hflush : i ≠ .flush) : SameLink s t := by
  cases i with
  | flush => exact absurd rfl hflush
  | txSetType | txCsum | rdStatus | rdTxstat | txRdType | txRdLen | txRdCsum | txVerify
  | rxRdType | rxRdLen | rxRdCsum | rxVerify => cases h; exact SameLink.refl s
  | txSetLen | txWrite | txRdByte | rxRdByte | decode => cases h; split <;> exact SameLink.refl s
  | encode => cases h; rw [State.ensureTxCsum_eq]; exact SameLink.refl s
  | wireStart | wireData => cases h; exact (s.rxByte_onlyRxSide _).sameLink
  | wireEsc7E | wireEsc7D | wireEsc11 | wireEsc13 | wireEscOther => cases h; exact (s.rxEscaped_onlyRxSide _).sameLink

/-- Settles O47: each of the four frames has its own few writers. -/
theorem framesAreKeptApart : Obligations.FramesAreKeptApart := fun _ _ _ h =>
  ⟨exec_sameTx h, exec_sameRxSide h, exec_sameLink h, exec_sameRest h⟩

/-! ### TX_CSV -/

/-- An instruction leaves TX_CSV, or is one of the two that set it. -/
theorem exec_txCsv {i : Instr} {s t : State} (h : exec i s = .next t) :
    t.txCsv = s.txCsv ∨ t.txCsv = true ∧ (i = .txCsum ∨ i = .encode) := by
  by_cases hset : i = .txCsum ∨ i = .encode
  · refine .inr ⟨?_, hset⟩
    rcases hset with rfl | rfl <;> cases h
    · rfl
    · rw [State.ensureTxCsum_eq]
  · obtain ⟨hcsum, hencode⟩ := not_or.1 hset
    left
    cases i with
    | txSetType => cases h; rfl
    | txSetLen | txWrite => cases h; split <;> rfl
    | txCsum => exact absurd rfl hcsum
    | encode => exact absurd rfl hencode
    | _ =>
      obtain ⟨-, -, -, hcsv, -⟩ := exec_sameTx h (by simp) (by simp) (by simp) hcsum hencode
      exact hcsv

/-- A decoded command is built by the row of its opcode (30_encoding.md R89). -/
theorem decodeCmd_row {w : Word} {i : Instr} (h : decodeCmd w = .instr i) :
    ∃ row ∈ cmdTable, row.op = opField w ∧ row.build (aField w) (bField w) = i := by
  unfold decodeCmd at h
  split at h <;> cases h
  next row hrow => exact ⟨row, List.mem_of_find?_eq_some hrow, by simpa using List.find?_some hrow, rfl⟩

/-- The opcodes of the two commands that set TX_CSV. -/
theorem opField_of_setsTxCsv {w : Word} {i : Instr} (h : decodeCmd w = .instr i) (hi : i = .txCsum ∨ i = .encode) :
    opField w = 0x04 ∨ opField w = 0x05 := by
  obtain ⟨row, hrow, hop, rfl⟩ := decodeCmd_row h
  rw [← hop]
  have hrows : ∀ row ∈ cmdTable, ∀ a b, row.build a b = .txCsum ∨ row.build a b = .encode →
      row.op = 0x04 ∨ row.op = 0x05 := by simp [cmdTable]
  exact hrows row hrow _ _ hi

/-- What a turn of the block can do, by what the port is doing (R94). -/
theorem blockStep_cases {s t : State} (h : blockStep s = .next t) :
    (s.port.accepts = true ∧ t = s) ∨
    (∃ w i, s.port = .issued w ∧ decodeCmd w = .instr i ∧ exec i s = .next t) ∨
    (∃ w, s.port = .issued w ∧ t = s.raiseCmdError .badOpcode) ∨
    (∃ todo total, s.port = .encoding todo total ∧ t = s.encodeTick todo total) ∨
    (s.port = .decoding ∧ ∃ used left, t = { s.rxBytes used with src := left }) ∨
    (s.port = .decoding ∧ t = s.decodeEnd) := by
  cases hp : s.port with
  | idle | responded =>
    cases (blockStep_of_accepts (by rw [hp]; rfl)).symm.trans h
    exact .inl ⟨rfl, rfl⟩
  | issued w =>
    cases hd : decodeCmd w with
    | instr i => exact .inr (.inl ⟨w, i, rfl, hd, (blockStep_of_issued hp hd).symm.trans h⟩)
    | reject why =>
      cases (blockStep_of_rejected hp hd).symm.trans h
      exact .inr (.inr (.inl ⟨w, rfl, rfl⟩))
  | encoding todo total =>
    cases (blockStep_of_encoding hp).symm.trans h
    exact .inr (.inr (.inr (.inl ⟨todo, total, rfl, rfl⟩)))
  | decoding =>
    by_cases hread : s.rxStat = .pending ∧ s.src ≠ []
    · obtain ⟨used, left, -, -, hb, -⟩ := blockStep_decoding hp hread.1 hread.2
      cases hb.symm.trans h
      exact .inr (.inr (.inr (.inr (.inl ⟨rfl, used, left, rfl⟩))))
    · have hend : s.rxStat ≠ .pending ∨ s.src = [] := by rwa [not_and_or, not_not] at hread
      cases (blockStep_decodeEnd hp hend).symm.trans h
      exact .inr (.inr (.inr (.inr (.inr ⟨rfl, rfl⟩))))

/-- A turn of the block leaves TX_CSV, or runs TX_CSUM or ENCODE and sets it. -/
theorem blockStep_txCsv {s t : State} (h : blockStep s = .next t) :
    t.txCsv = s.txCsv ∨ t.txCsv = true ∧ ∃ w, s.port = .issued w ∧ (opField w = 0x04 ∨ opField w = 0x05) := by
  obtain ⟨-, rfl⟩ | ⟨w, i, hp, hd, hexec⟩ | ⟨w, -, rfl⟩ | ⟨todo, total, -, rfl⟩ | ⟨-, used, left, rfl⟩ | ⟨-, rfl⟩ :=
    blockStep_cases h
  · exact .inl rfl
  · exact (exec_txCsv hexec).imp_right fun ⟨hcsv, hi⟩ => ⟨hcsv, w, hp, opField_of_setsTxCsv hd hi⟩
  · exact .inl rfl
  · cases todo <;> exact .inl rfl
  · obtain ⟨-, -, -, hcsv, -⟩ := (s.rxBytes_onlyRxSide used).sameTx
    exact .inl hcsv
  · exact .inl rfl

/-- A move other than reset leaves TX_CSV, or is a turn of the block that sets it. -/
theorem perform_txCsv {e : Machine.Event} {s t : State} (he : e ≠ .reset) (h : perform e s = .next t) :
    t.txCsv = s.txCsv ∨
      t.txCsv = true ∧ e = .turn ∧ ∃ w, s.port = .issued w ∧ (opField w = 0x04 ∨ opField w = 0x05) := by
  cases e with
  | turn => exact (blockStep_txCsv h).imp_right fun ⟨hcsv, hw⟩ => ⟨hcsv, rfl, hw⟩
  | command w =>
    obtain ⟨-, rfl⟩ := hostStep_next h
    exact .inl rfl
  | arrive b => cases h; exact .inl rfl
  | drain =>
    cases h
    unfold State.sinkDrain
    split <;> exact .inl rfl
  | reset => exact absurd rfl he

/-- Asserting reset clears TX_CSV or leaves it, applied at once or latched (70_reset_and_hazards.md R241). -/
theorem State.assertReset_txCsv {s : State} (h : s.assertReset.txCsv = true) : s.txCsv = true := by
  unfold State.assertReset at h
  split at h
  · cases h
  · exact h

/-- Settles O50: TX_CSV is 1 after its two writers, reset alone clears it, and every other move leaves it. -/
theorem checksumSetFlagIsClearedByResetOnly : Obligations.ChecksumSetFlagIsClearedByResetOnly := by
  refine ⟨fun s => ⟨_, rfl, rfl⟩, fun s => ⟨_, rfl, by rw [State.ensureTxCsum_eq]⟩, fun s t h => ?_⟩
  obtain ⟨hdue, rfl⟩ | ⟨-, hreset, rfl⟩ | ⟨-, hother, hmove⟩ := step_cases h
  · exact ⟨fun _ _ => .inl hdue, fun _ hset => by cases hset⟩
  · refine ⟨fun _ _ => .inr ⟨s.nextMove.2, Prod.ext hreset rfl⟩, fun hclear hset => ?_⟩
    have hbefore : s.txCsv = true := by simpa using State.assertReset_txCsv hset
    exact absurd hbefore (by simp [hclear])
  · obtain hsame | ⟨hset, hturn, w, hp, hop⟩ := perform_txCsv hother hmove
    · rw [State.nextMove_txCsv] at hsame
      exact ⟨fun hset hclear => absurd (hsame.trans hset) (by simp [hclear]),
        fun hclear hset => absurd (hsame.trans hclear) (by simp [hset])⟩
    · rw [State.nextMove_port] at hp
      exact ⟨fun _ hclear => by simp [hset] at hclear, fun _ _ => ⟨w, s.nextMove.2, hp, hop, Prod.ext hturn rfl⟩⟩

end Sys2Proof.Machine

/-! PROOF. The fields of the two status words and the numbers of their named values (10_state.md R31, R32, R34, R38,
R39). -/

namespace Sys2Proof.Machine

theorem RxStat.code_injective : Function.Injective RxStat.code := fun a b => by cases a <;> cases b <;> decide

theorem RxErr.code_injective : Function.Injective RxErr.code := fun a b => by cases a <;> cases b <;> decide

theorem DecSt.code_injective : Function.Injective DecSt.code := fun a b => by cases a <;> cases b <;> decide

/-- Each field of STATUS stands at its bits (R38). -/
theorem State.status_fields (s : State) :
    s.status.extractLsb' 0 2 = s.rxStat.code ∧ s.status.extractLsb' 2 2 = s.rxErr.code ∧
      s.status.extractLsb' 4 3 = s.decSt.code ∧ s.status.extractLsb' 7 1 = BitVec.ofBool s.decEsc ∧
      s.status.extractLsb' 8 8 = s.decAcc ∧ s.status.extractLsb' 16 16 = s.decCnt := by
  unfold State.status
  refine ⟨?_, ?_, ?_, ?_, ?_, ?_⟩ <;> ext i hi <;> simp only [BitVec.getElem_extractLsb'] <;> grind

/-- TX_CSV is bit 0 of TXSTAT, and the other bits read as 0 (R39). -/
theorem State.txstat_fields (s : State) :
    s.txstat.extractLsb' 0 1 = BitVec.ofBool s.txCsv ∧ s.txstat.extractLsb' 1 31 = 0 := by
  unfold State.txstat
  cases s.txCsv <;> decide

/-- A command that only responds changes the port alone. -/
theorem State.respond_sameBlock (s : State) (rc : RespCode) (val : Word) : SameBlock s (s.respond rc val) :=
  ⟨SameTx.refl s, (SameRxSide.refl s).1, (SameRxSide.refl s).2, SameLink.refl s, SameRest.refl s⟩

theorem decodeCmd_rdStatus {w : Word} (h : opField w = 0x11) : decodeCmd w = .instr .rdStatus :=
  decodeCmd_of_row (row := ⟨0x11, fun _ _ => .rdStatus⟩) (by rw [h]; rfl)

theorem decodeCmd_rdTxstat {w : Word} (h : opField w = 0x12) : decodeCmd w = .instr .rdTxstat :=
  decodeCmd_of_row (row := ⟨0x12, fun _ _ => .rdTxstat⟩) (by rw [h]; rfl)

/-- Settles O22: the fields of the status words are read off at their bits, and a field has a value exactly when its bits
hold that value's number. -/
theorem statusReadsAnswerTheFields : Obligations.StatusReadsAnswerTheFields := by
  refine ⟨fun w => ⟨decodeCmd_rdStatus, decodeCmd_rdTxstat⟩, fun s => ⟨⟨_, s.status, rfl, rfl, s.respond_sameBlock _ _, ?_⟩,
    ⟨_, s.txstat, rfl, rfl, s.respond_sameBlock _ _, s.txstat_fields⟩⟩⟩
  obtain ⟨hstat, herr, hst, hesc, hacc, hcnt⟩ := s.status_fields
  have stat (x : RxStat) : s.rxStat = x ↔ s.status.extractLsb' 0 2 = x.code := hstat ▸ RxStat.code_injective.eq_iff.symm
  have err (x : RxErr) : s.rxErr = x ↔ s.status.extractLsb' 2 2 = x.code := herr ▸ RxErr.code_injective.eq_iff.symm
  have st (x : DecSt) : s.decSt = x ↔ s.status.extractLsb' 4 3 = x.code := hst ▸ DecSt.code_injective.eq_iff.symm
  exact ⟨stat .pending, stat .ready, stat .errored,
    err .noError, err .checksumFailure, err .bufferCapacityExceeded, err .unexpectedStart,
    st .awaitStart, st .lenMsb, st .lenLsb, st .frameType, st .payload, hesc, hacc, hcnt,
    beq_iff_eq.trans (stat .ready).symm, beq_iff_eq.trans (stat .errored).symm, rfl⟩

end Sys2Proof.Machine

/-! PROOF. The machine's invariant `CodecInv` (10_state.md R23, R26, R33, R37, 42_decoder.md R184): every operation keeps its
part, so every step keeps the whole, and what it says of a Ready frame. -/

namespace Sys2Proof.Machine

/-! ### What the invariant says in each decoder state -/

section
variable {s : State}

theorem RxInv.decCnt_le (h : RxInv s) : s.decCnt.toNat ≤ s.cfg.rxCap := h.1

/-- An error code stands only with Errored (R33). -/
theorem RxInv.noError_iff (h : RxInv s) : s.rxErr = .noError ↔ s.rxStat ≠ .errored := h.2.1

/-- Until the type byte has arrived the frame is as Clear left it, but for the length bytes. -/
theorem RxInv.beforeType (h : RxInv s) (hd : s.decSt ≠ .payload) : BeforeType s := by
  obtain ⟨-, -, h⟩ := h
  cases hs : s.decSt with
  | awaitStart | lenMsb | lenLsb => rw [hs] at h; exact h.1
  | frameType => rw [hs] at h; exact h
  | payload => exact absurd hs hd

/-- Until its first byte has arrived, RX_LEN is 0. -/
theorem RxInv.rxLen_of_noByte (h : RxInv s) (hd : s.decSt = .awaitStart ∨ s.decSt = .lenMsb) : s.rxLen = 0x0000 := by
  obtain ⟨-, -, h⟩ := h
  rcases hd with hd | hd <;> rw [hd] at h
  · obtain ⟨-, -, -, hlen⟩ := h
    exact hlen
  · exact h.2

/-- Until its second byte has arrived, RX_LEN[7:0] is 0. -/
theorem RxInv.rxLen_of_oneByte (h : RxInv s) (hd : s.decSt = .lenLsb) : s.rxLen.extractLsb' 0 8 = 0x00 := by
  obtain ⟨-, -, h⟩ := h
  rw [hd] at h
  exact h.2

/-- In PAYLOAD, while the frame is Pending, the checksum byte is still to come. -/
theorem RxInv.payload (h : RxInv s) (hp : s.rxStat = .pending) (hd : s.decSt = .payload) :
    s.decCnt.toNat ≤ (plen s.rxLen).toNat ∧ BeforeChecksum s := by
  obtain ⟨-, -, h⟩ := h
  rw [hd, hp] at h
  exact h

/-- A Ready frame is one whose checksum byte has arrived and made the sum FF. -/
theorem RxInv.ready (h : RxInv s) (hr : s.rxStat = .ready) : AfterChecksum s ∧ s.decAcc = 0xFF := by
  by_cases hd : s.decSt = .payload
  · obtain ⟨-, -, h⟩ := h
    rw [hd, hr] at h
    exact h.2
  · exact absurd hr (h.beforeType hd).1

end

/-! ### The byte step keeps the receive side's part -/

/-- The invariant's part about the RX frame and the decoder, the form and the bound of RXB included. -/
def RxSideInv (s : State) : Prop := (s.rxb.wf ∧ s.rxb.below s.cfg.rxCap) ∧ RxInv s

/-- A sum grows by a byte appended (00_scope.md R12). -/
theorem sum8_append_one (t : Byte) (bytes : List Byte) (b : Byte) : sum8 t (bytes ++ [b]) = sum8 t bytes + b := by
  simp [sum8]

/-- A count below RX_CAP does not wrap (00_scope.md R5). -/
theorem toNat_succ_of_lt_rxCap {n : Half} {c : Config} (h : n.toNat < c.rxCap) : (n + 1).toNat = n.toNat + 1 := by
  have hmax : c.rxCap ≤ 65534 := c.rxCapPred.isLt
  bv_omega

/-- The payload received is the former one with the byte stored last (42_decoder.md R182). -/
theorem State.rxPayload_dataByte {s : State} (h : s.decCnt.toNat < s.cfg.rxCap) (b : Byte) :
    (s.dataByte b).rxPayload = s.rxPayload ++ [b] := by
  have hcnt : (s.dataByte b).decCnt.toNat = s.decCnt.toNat + 1 := toNat_succ_of_lt_rxCap h
  have hnew : (s.dataByte b).rxbAt s.decCnt.toNat = b := by
    simp [State.rxbAt, State.dataByte]
  have hold : ∀ i ∈ List.range s.decCnt.toNat, (s.dataByte b).rxbAt i = s.rxbAt i := by
    intro i hi
    have hne : i ≠ s.decCnt.toNat := (List.mem_range.1 hi).ne
    simp [State.rxbAt, State.rxbUnlisted, State.dataByte, Memory.read_write_other _ _ hne]
  rw [State.rxPayload, hcnt, List.range_succ, List.map_append, List.map_congr_left hold, List.map_singleton, hnew]
  rfl

section
variable {s : State}

/-- Only in AWAIT_START and after the end of a frame does the invariant speak of DEC_ESC. -/
theorem RxInv.with_decEsc (h : RxInv s) (hp : s.rxStat = .pending) (hd : s.decSt ≠ .awaitStart) (e : Bool) :
    RxInv { s with decEsc := e } := by
  obtain ⟨hcap, herr, h⟩ := h
  refine ⟨hcap, herr, ?_⟩
  cases hs : s.decSt with
  | awaitStart => exact absurd hs hd
  | lenMsb | lenLsb | frameType => rw [hs] at h; exact h
  | payload => rw [hs, hp] at h; simp only [hp]; exact h

/-- START begins a frame (42_decoder.md R173). -/
theorem RxInv.frameStart (h : RxInv s) (hd : s.decSt = .awaitStart) : RxInv { s with decSt := .lenMsb } :=
  ⟨h.decCnt_le, h.noError_iff, h.beforeType (by simp [hd]), h.rxLen_of_noByte (.inl hd)⟩

/-- A raw START inside a frame ends it (R174). -/
theorem RxInv.unexpectedStart (h : RxInv s) (hp : s.rxStat = .pending) (hd : s.decSt ≠ .awaitStart) :
    RxInv (s.terminate .unexpectedStart) := by
  refine ⟨h.decCnt_le, by simp, ?_⟩
  have hbefore : s.decSt ≠ .payload → BeforeType (s.terminate .unexpectedStart) := fun hne =>
    ⟨by simp, .inr rfl, (h.beforeType hne).2.2⟩
  rw [State.terminate_decSt]
  cases hs : s.decSt with
  | awaitStart => exact absurd hs hd
  | lenMsb => exact ⟨hbefore (by simp [hs]), h.rxLen_of_noByte (.inr hs)⟩
  | lenLsb => exact ⟨hbefore (by simp [hs]), h.rxLen_of_oneByte hs⟩
  | frameType => exact hbefore (by simp [hs])
  | payload => exact h.payload hp hs

theorem RxInv.lenMsb (h : RxInv s) (hd : s.decSt = .lenMsb) (b : Byte) : RxInv (s.lenMsb b) := by
  refine ⟨h.decCnt_le, h.noError_iff, h.beforeType (by simp [hd]), ?_⟩
  show (b ++ s.rxLen.extractLsb' 0 8 : Half).extractLsb' 0 8 = 0x00
  rw [h.rxLen_of_noByte (.inr hd), BitVec.extractLsb'_append_eq_of_add_le (by decide)]
  decide

theorem RxInv.lenLsb (h : RxInv s) (hd : s.decSt = .lenLsb) (b : Byte) : RxInv (s.lenLsb b) :=
  ⟨h.decCnt_le, h.noError_iff, h.beforeType (by simp [hd])⟩

/-- The type byte is the first one summed (R179). -/
theorem RxInv.frameType (h : RxInv s) (hp : s.rxStat = .pending) (hd : s.decSt = .frameType) (b : Byte) :
    RxInv (s.frameType b) := by
  obtain ⟨-, -, hacc, -, -, hcsum⟩ := h.beforeType (by simp [hd])
  have hsum : BeforeChecksum (s.frameType b) :=
    ⟨hcsum, show s.decAcc + b = b by simp [hacc]⟩
  refine ⟨Nat.zero_le _, h.noError_iff, Nat.zero_le _, ?_⟩
  rw [show (s.frameType b).rxStat = .pending from hp]
  exact hsum

/-- The checksum byte ends the frame, Ready or with ChecksumFailure (R184). -/
theorem RxInv.checksum (h : RxInv s) (hp : s.rxStat = .pending) (hd : s.decSt = .payload) (he : s.decEsc = false)
    (hcnt : s.decCnt = plen s.rxLen) (b : Byte) : RxInv (s.checksum b) := by
  obtain ⟨hle, -, hsum⟩ := h.payload hp hd
  have hafter : s.decAcc + b = sum8 s.rxType s.rxPayload + b := by rw [hsum]
  unfold State.checksum
  split
  next hpass =>
    refine ⟨h.decCnt_le, by simp, ?_⟩
    simp only [hd]
    exact ⟨hle, ⟨hcnt, hafter, he⟩, hpass⟩
  next hfail =>
    refine ⟨h.decCnt_le, by simp, ?_⟩
    simp only [State.terminate_decSt, hd]
    exact ⟨hle, ⟨hcnt, hafter, he⟩, hfail⟩

/-- A payload byte for which RXB has no room ends the frame (R183). -/
theorem RxInv.overflow (h : RxInv s) (hp : s.rxStat = .pending) (hd : s.decSt = .payload) (he : s.decEsc = false)
    (hcnt : s.decCnt ≠ plen s.rxLen) (hfull : s.decCnt.toNat = s.cfg.rxCap) : RxInv s.overflow := by
  obtain ⟨hle, hsum⟩ := h.payload hp hd
  refine ⟨h.decCnt_le, by simp [State.overflow], ?_⟩
  simp only [State.overflow, State.terminate_decSt, hd]
  exact ⟨hle, hsum, hfull, hcnt, he⟩

/-- A payload byte that fits is stored, summed and counted (R182). -/
theorem RxInv.dataByte (h : RxInv s) (hp : s.rxStat = .pending) (hd : s.decSt = .payload)
    (hcnt : s.decCnt ≠ plen s.rxLen) (hroom : s.decCnt.toNat < s.cfg.rxCap) (b : Byte) : RxInv (s.dataByte b) := by
  obtain ⟨hle, hcsum, hsum⟩ := h.payload hp hd
  have hsucc : (s.dataByte b).decCnt.toNat = s.decCnt.toNat + 1 := toNat_succ_of_lt_rxCap hroom
  have hlt : s.decCnt.toNat < (plen s.rxLen).toNat := lt_of_le_of_ne hle fun e => hcnt (BitVec.eq_of_toNat_eq e)
  have hbefore : BeforeChecksum (s.dataByte b) := by
    refine ⟨hcsum, ?_⟩
    rw [State.rxPayload_dataByte hroom]
    exact (congrArg (· + b) hsum).trans (sum8_append_one _ _ _).symm
  refine ⟨hsucc ▸ hroom, h.noError_iff, ?_⟩
  rw [show (s.dataByte b).decSt = .payload from hd, show (s.dataByte b).rxStat = .pending from hp]
  exact ⟨hsucc ▸ hlt, hbefore⟩

/-- A byte of the payload or the checksum goes to the rule R180 chooses. -/
theorem RxSideInv.payloadByte (h : RxSideInv s) (hp : s.rxStat = .pending) (hd : s.decSt = .payload)
    (he : s.decEsc = false) (b : Byte) : RxSideInv (s.payloadByte b) := by
  obtain ⟨hbuf, hrx⟩ := h
  unfold State.payloadByte
  split
  next hcnt =>
    have hrxb : (s.checksum b).rxb = s.rxb ∧ (s.checksum b).cfg = s.cfg := by
      unfold State.checksum; split <;> exact ⟨rfl, rfl⟩
    exact ⟨by rwa [hrxb.1, hrxb.2], hrx.checksum hp hd he hcnt b⟩
  next hcnt =>
    split
    next hfull => exact ⟨hbuf, hrx.overflow hp hd he hcnt hfull⟩
    next hfull =>
      have hroom : s.decCnt.toNat < s.cfg.rxCap := lt_of_le_of_ne hrx.decCnt_le hfull
      exact ⟨⟨Memory.write_wf _ _ b hbuf.1, Memory.write_below _ b hbuf.2 hroom⟩, hrx.dataByte hp hd hcnt hroom b⟩

theorem RxSideInv.dataSymbol (h : RxSideInv s) (hp : s.rxStat = .pending) (he : s.decEsc = false) (b : Byte) :
    RxSideInv (s.dataSymbol b) := by
  unfold State.dataSymbol
  cases hd : s.decSt with
  | awaitStart => exact h
  | lenMsb => exact ⟨h.1, h.2.lenMsb hd b⟩
  | lenLsb => exact ⟨h.1, h.2.lenLsb hd b⟩
  | frameType => exact ⟨h.1, h.2.frameType hp hd b⟩
  | payload => exact h.payloadByte hp hd he b

theorem RxSideInv.rxByte (h : RxSideInv s) (r : Byte) : RxSideInv (s.rxByte r) := by
  by_cases hp : s.rxStat = .pending
  case neg => rwa [State.rxByte_ended hp]
  by_cases hd : s.decSt = .awaitStart
  · rw [State.rxByte_hunting hp hd, State.awaitStart]
    split
    · exact ⟨h.1, h.2.frameStart hd⟩
    · exact h
  by_cases hr : r = startByte
  · subst hr
    rw [State.rxByte_start hp hd]
    exact ⟨h.1, h.2.unexpectedStart hp hd⟩
  have hesc : ∀ e, RxSideInv { s with decEsc := e } := fun e => ⟨h.1, h.2.with_decEsc hp hd e⟩
  by_cases he : s.decEsc = true ∨ r ≠ escByte
  · rw [State.rxByte_data hp hd hr he]
    exact (hesc false).dataSymbol hp rfl _
  · simp only [not_or, Bool.not_eq_true, not_not] at he
    obtain ⟨he, rfl⟩ := he
    rw [State.rxByte_escape hp hd he]
    exact hesc true

theorem RxSideInv.rxBytes {s : State} (h : RxSideInv s) (bytes : List Byte) : RxSideInv (s.rxBytes bytes) := by
  induction bytes generalizing s with
  | nil => exact h
  | cons r rest ih => exact ih (h.rxByte r)

theorem RxSideInv.rxEscaped (h : RxSideInv s) (x : Byte) : RxSideInv (s.rxEscaped x) := by
  cases he : s.decEsc with
  | false => rw [State.rxEscaped_boundary he]; exact h.rxBytes _
  | true => rw [State.rxEscaped_pending he]; exact h.rxByte x

end

/-- Clear leaves a frame of which nothing has arrived (R171). -/
theorem State.clear_rxInv (s : State) : RxInv s.clear :=
  ⟨Nat.zero_le _, by simp, ⟨by simp, .inl rfl, rfl, rfl, rfl, rfl⟩, rfl, rfl, rfl⟩

/-! ### ENCODE's bytes are at most R152's maximum (41_encoder.md R151, R152) -/

theorem esc_length_le (b : Byte) : (esc b).length ≤ 2 := by
  unfold esc
  split <;> simp

/-- Byte stuffing at most doubles a sequence. -/
theorem escAll_length_le (bytes : List Byte) : (escAll bytes).length ≤ 2 * bytes.length := by
  induction bytes with
  | nil => rfl
  | cons b rest ih =>
    have hb := esc_length_le b
    simp only [escAll, List.flatMap_cons, List.length_append, List.length_cons] at ih ⊢
    omega

theorem State.txWire_length_le (s : State) : s.txWire.length ≤ 1 + 2 * (4 + (plen s.txLen).toNat) := by
  have h := escAll_length_le (frameContent s.txType s.txLen s.txPayload s.txCsum)
  simp only [frameContent, State.txPayload, List.length_append, List.length_cons, List.length_nil, List.length_map,
    List.length_range] at h
  simp only [State.txWire, enc, frameContent, State.txPayload, List.length_cons]
  omega

/-! ### Operations keep the invariant -/

section
variable {s : State}

theorem CodecInv.rxSide (h : CodecInv s) : RxSideInv s := by
  obtain ⟨⟨-, hwf, -, hbelow⟩, -, hrx, -⟩ := h
  exact ⟨⟨hwf, hbelow⟩, hrx⟩

/-- A change of the receive side alone has only that side's part to keep. -/
theorem CodecInv.of_onlyRxSide {t : State} (h : CodecInv s) (ht : OnlyRxSide s t) (hrx : RxSideInv t) : CodecInv t := by
  obtain ⟨⟨htxwf, -, htxbelow, -⟩, htx, -, hport⟩ := h
  obtain ⟨hcfg, -, -, hlen, htxb, hcsum, hcsv, hp, -⟩ := ht.fields
  refine ⟨⟨?_, hrx.1.1, ?_, hrx.1.2⟩, ?_, hrx.2, ?_⟩
  · rwa [htxb]
  · rwa [htxb, hcfg]
  · rwa [TxInv, hlen, hcfg, hcsv, hcsum]
  · rwa [PortInv, hp, hcfg]

theorem CodecInv.rxByte (h : CodecInv s) (r : Byte) : CodecInv (s.rxByte r) :=
  h.of_onlyRxSide (s.rxByte_onlyRxSide r) (h.rxSide.rxByte r)

theorem CodecInv.rxBytes (h : CodecInv s) (bytes : List Byte) : CodecInv (s.rxBytes bytes) :=
  h.of_onlyRxSide (s.rxBytes_onlyRxSide bytes) (h.rxSide.rxBytes bytes)

theorem CodecInv.rxEscaped (h : CodecInv s) (x : Byte) : CodecInv (s.rxEscaped x) :=
  h.of_onlyRxSide (s.rxEscaped_onlyRxSide x) (h.rxSide.rxEscaped x)

theorem CodecInv.with_port (h : CodecInv s) {p : Port} (hp : PortInv { s with port := p }) :
    CodecInv { s with port := p } := by
  obtain ⟨hmem, htx, hrx, -⟩ := h
  exact ⟨hmem, htx, hrx, hp⟩

theorem CodecInv.respond (h : CodecInv s) (rc : RespCode) (val : Word) : CodecInv (s.respond rc val) :=
  h.with_port trivial

/-- TX_SET_LEN's test is the invariant's bound (10_state.md R23). -/
theorem CodecInv.setTxLen (h : CodecInv s) {a : Half} (ha : s.txLenLegal a = true) : CodecInv { s with txLen := a } := by
  obtain ⟨hmem, ⟨-, hcsum⟩, hrx, hport⟩ := h
  exact ⟨hmem, ⟨of_decide_eq_true ha, hcsum⟩, hrx, hport⟩

/-- A legal TX index lies in TXB (20_memory.md R51). -/
theorem CodecInv.writeTxb (h : CodecInv s) {a : Half} (ha : s.txIndexLegal a = true) (b : Byte) :
    CodecInv (s.writeTxb a b) := by
  obtain ⟨⟨htxwf, hrxwf, htxbelow, hrxbelow⟩, htx, hrx, hport⟩ := h
  have hroom : a.toNat < s.cfg.txCap := lt_of_lt_of_le (BitVec.lt_def.1 (of_decide_eq_true ha)) htx.1
  exact ⟨⟨Memory.write_wf _ _ b htxwf, hrxwf, Memory.write_below _ b htxbelow hroom, hrxbelow⟩, htx, hrx, hport⟩

theorem CodecInv.storeTxCsum (h : CodecInv s) : CodecInv s.storeTxCsum := by
  obtain ⟨hmem, ⟨hlen, -⟩, hrx, hport⟩ := h
  exact ⟨hmem, ⟨hlen, by simp⟩, hrx, hport⟩

theorem CodecInv.ensureTxCsum (h : CodecInv s) : CodecInv s.ensureTxCsum := by
  unfold State.ensureTxCsum
  split
  · exact h
  · exact h.storeTxCsum

/-- ENCODE puts no more bytes on the port than a full buffer makes (41_encoder.md R152). -/
theorem CodecInv.encoding (h : CodecInv s) : CodecInv { s with port := .encoding s.txWire s.txWire.length } := by
  obtain ⟨hmem, htx, hrx, -⟩ := h
  have hmax : s.txWire.length ≤ 1 + 2 * (4 + s.cfg.txCap) := s.txWire_length_le.trans (by have := htx.1; omega)
  exact ⟨hmem, htx, hrx, le_rfl, hmax⟩

theorem CodecInv.encodeTick (h : CodecInv s) {todo : List Byte} {total : Nat} (hp : s.port = .encoding todo total) :
    CodecInv (s.encodeTick todo total) := by
  cases todo with
  | nil => exact h.respond _ _
  | cons b rest =>
    obtain ⟨hmem, htx, hrx, hport⟩ := h
    rw [PortInv, hp] at hport
    exact ⟨hmem, htx, hrx, Nat.le_of_succ_le hport.1, hport.2⟩

theorem CodecInv.clear (h : CodecInv s) : CodecInv s.clear := by
  obtain ⟨hmem, htx, -, hport⟩ := h
  exact ⟨hmem, htx, s.clear_rxInv, hport⟩

theorem CodecInv.sinkDrain (h : CodecInv s) : CodecInv s.sinkDrain := by
  unfold State.sinkDrain
  split <;> exact h

/-- Reset writes both frames, and leaves the port (70_reset_and_hazards.md R240). -/
theorem CodecInv.applyReset (h : CodecInv s) : CodecInv s.applyReset := by
  obtain ⟨-, -, -, hport⟩ := h
  exact ⟨⟨Memory.wf_nil, Memory.wf_nil, Memory.below_nil _, Memory.below_nil _⟩, ⟨Nat.zero_le _, fun _ => rfl⟩,
    s.clear_rxInv, hport⟩

theorem CodecInv.assertReset (h : CodecInv s) : CodecInv s.assertReset := by
  unfold State.assertReset
  split
  · exact h.applyReset
  · exact h

theorem CodecInv.nextMove (h : CodecInv s) : CodecInv s.nextMove.2 := by
  rw [State.nextMove_eq]
  exact h

end

/-! ### Instructions, turns and moves keep the invariant -/

theorem exec_codecInv {i : Instr} {s t : State} (hs : CodecInv s) (h : exec i s = .next t) : CodecInv t := by
  cases i with
  | txSetType | flush => cases h; exact hs.respond .ok 0
  | rdStatus | rdTxstat | txRdType | txRdLen | txRdCsum | txVerify
  | rxRdType | rxRdLen | rxRdCsum | rxVerify => cases h; exact hs.respond _ _
  | txRdByte | rxRdByte => cases h; split <;> exact hs.respond _ _
  | txSetLen a =>
    cases h
    split
    next hlegal => exact (hs.setTxLen hlegal).respond _ _
    next => exact hs.respond _ _
  | txWrite a b =>
    cases h
    split
    next hlegal => exact (hs.writeTxb hlegal b).respond _ _
    next => exact hs.respond _ _
  | txCsum => cases h; exact hs.storeTxCsum.respond _ _
  | encode => cases h; exact hs.ensureTxCsum.encoding
  | decode =>
    cases h
    split
    · exact hs.with_port trivial
    · exact hs.clear.with_port trivial
  | wireStart | wireData => cases h; exact hs.rxByte _
  | wireEsc7E | wireEsc7D | wireEsc11 | wireEsc13 | wireEscOther => cases h; exact hs.rxEscaped _

theorem blockStep_codecInv {s t : State} (hs : CodecInv s) (h : blockStep s = .next t) : CodecInv t := by
  obtain ⟨-, rfl⟩ | ⟨w, i, -, -, hexec⟩ | ⟨w, -, rfl⟩ | ⟨todo, total, hp, rfl⟩ | ⟨-, used, left, rfl⟩ | ⟨-, rfl⟩ :=
    blockStep_cases h
  · exact hs
  · exact exec_codecInv hs hexec
  · exact hs.respond _ _
  · exact hs.encodeTick hp
  · exact hs.rxBytes used
  · exact hs.respond _ _

theorem perform_codecInv {e : Machine.Event} {s t : State} (hs : CodecInv s) (h : perform e s = .next t) :
    CodecInv t := by
  cases e with
  | turn => exact blockStep_codecInv hs h
  | command w =>
    obtain ⟨-, rfl⟩ := hostStep_next h
    exact hs.with_port trivial
  | arrive b => cases h; exact hs
  | drain => cases h; exact hs.sinkDrain
  | reset => cases h; exact hs.assertReset

/-- Settles O52: a reset writes the values of an empty frame, and every other move keeps the invariant by the rule of the
operation it performs. -/
theorem everyStepKeepsTheInvariant : Obligations.EveryStepKeepsTheInvariant := by
  intro s t hs h
  obtain ⟨-, rfl⟩ | ⟨-, -, rfl⟩ | ⟨-, -, hmove⟩ := step_cases h
  · exact hs.applyReset
  · exact hs.nextMove.assertReset
  · exact perform_codecInv hs.nextMove hmove

/-- Settles O54: a Ready frame is one after its checksum byte, which completed the sum to FF. -/
theorem readyMeansTheCheckPassed : Obligations.ReadyMeansTheCheckPassed := by
  rintro s ⟨-, -, hrx, -⟩
  refine ⟨hrx.noError_iff, fun hready => ?_, hrx.decCnt_le⟩
  obtain ⟨⟨hcnt, hsum, -⟩, hpass⟩ := hrx.ready hready
  exact ⟨hpass, eq_sub_of_add_eq' (hsum.symm.trans hpass), hcnt⟩

end Sys2Proof.Machine

/-! PROOF. The block's turn and the queues: a round of DECODE's loop runs the symbol at the head of SRC, the environments move
the queues alone, and which turns read SRC or act on the sink (20_memory.md R58, R61, R62, R64, R65). -/

namespace Sys2Proof.Machine

/-! ### The next move -/

/-- Making a move takes it off the schedule and changes nothing else (10_state.md R20). -/
theorem State.eq_of_nextMove {s u : State} {e : Machine.Event} (h : s.nextMove = (e, u)) :
    u = { s with sched := u.sched, later := u.later } := by
  have hmove := s.nextMove_eq
  rwa [h] at hmove

/-- A step in which the block comes to its turn applies the reset that is due, or is the block's own. -/
theorem step_blockMoves_cases {s u t : State} (hu : BlockMoves s u) (h : step s = .next t) :
    (s.resetDue = true ∧ t = s.applyReset) ∨ blockStep u = .next t := by
  have hmove : s.nextMove = (.turn, u) := hu
  obtain ⟨hdue, rfl⟩ | ⟨-, hreset, -⟩ | ⟨-, -, hturn⟩ := step_cases h
  · exact .inl ⟨hdue, rfl⟩
  · rw [hmove] at hreset
    cases hreset
  · rw [hmove] at hturn
    exact .inr hturn

/-! ### A round of DECODE's loop (42_decoder.md R170) -/

/-- With the frame Pending and a whole symbol at the head of SRC, the round runs that symbol. -/
theorem blockStep_of_symbol {s : State} {i : Instr} {left : List Byte} (hp : s.port = .decoding)
    (hs : s.rxStat = .pending) (hd : decodeWire s.decEsc s.src = .instr (i, left)) :
    blockStep s = exec i { s with src := left } := by
  cases hsrc : s.src with
  | nil => rw [hsrc] at hd; cases hd
  | cons r rest =>
    rw [hsrc] at hd
    simp [blockStep, State.fetch, hp, State.fetchSymbol, hs, hsrc, hd]

/-- Settles O40: no reset is due while DECODE loops, so each way to the block's turn is a round of the loop. -/
theorem stepRunsTheWireSymbol : Obligations.StepRunsTheWireSymbol := by
  intro s i left hp hs hd
  have hall (u : State) (hu : BlockMoves s u) : step s = exec i { u with src := left } := by
    have hturn : step s = blockStep u := step_of_move (State.resetDue_of_busy (by rw [hp]; rfl)) hu
    rw [hturn, State.eq_of_nextMove hu]
    exact blockStep_of_symbol hp hs hd
  exact ⟨fun ⟨hsched, hlater⟩ => hall s (State.nextMove_of_idle hsched hlater),
    fun _ hsched => hall _ (State.nextMove_of_sched hsched),
    fun _ hsched hlater => hall _ (State.nextMove_of_cycle hsched hlater), hall⟩

/-! ### The environments (20_memory.md R58, R62) -/

theorem State.sinkDrain_nil {s : State} (h : s.snk = []) : s.sinkDrain = s := by
  simp [State.sinkDrain, h]

theorem State.sinkDrain_cons {s : State} {b : Byte} {more : List Byte} (h : s.snk = b :: more) :
    s.sinkDrain = { s with snk := more, link := s.link ++ [b] } := by
  simp [State.sinkDrain, h]

/-- Settles O42: with no reset due the step is the environment's move, made on the queues the schedule left as they were. -/
theorem environmentsMoveOnlyTheQueues : Obligations.EnvironmentsMoveOnlyTheQueues := by
  intro s u hdue
  refine ⟨fun b hu => ?_, fun b more hu hsnk => ?_, fun hu hsnk => ?_, fun e hu => State.eq_of_nextMove hu⟩
  · have hstep : step s = .next (u.srcAppend b) := step_of_move hdue hu
    have hsrc : u.src = s.src := by rw [State.eq_of_nextMove hu]
    rw [hstep, State.srcAppend, hsrc]
  · have hstep : step s = .next u.sinkDrain := step_of_move hdue hu
    have hlink : u.link = s.link := by rw [State.eq_of_nextMove hu]
    have hcons : u.snk = b :: more := by rw [State.eq_of_nextMove hu]; exact hsnk
    rw [hstep, State.sinkDrain_cons hcons, hlink]
  · have hstep : step s = .next u.sinkDrain := step_of_move hdue hu
    have hnil : u.snk = [] := by rw [State.eq_of_nextMove hu]; exact hsnk
    rw [hstep, State.sinkDrain_nil hnil]

/-! ### Who reads the source and who acts on the sink (20_memory.md R61, R64) -/

/-- No instruction takes a byte from SRC or adds one: a wire symbol's bytes have left SRC before it runs. -/
theorem exec_src {i : Instr} {s t : State} (h : exec i s = .next t) : t.src = s.src := by
  by_cases hflush : i = .flush
  · subst hflush
    cases h
    rfl
  · obtain ⟨hsrc, -⟩ := exec_sameLink h hflush
    exact hsrc

/-- FLUSH has one opcode (30_encoding.md R89). -/
theorem opField_of_flush {w : Word} (h : decodeCmd w = .instr .flush) : opField w = 0x06 := by
  obtain ⟨row, hrow, hop, hbuild⟩ := decodeCmd_row h
  rw [← hop]
  have hrows : ∀ row ∈ cmdTable, ∀ a b, row.build a b = .flush → row.op = 0x06 := by simp [cmdTable]
  exact hrows row hrow _ _ hbuild

/-- One tick of ENCODE writes its next byte, where one is left, and does nothing else to the queues (41_encoder.md R150). -/
theorem State.encodeTick_queues (s : State) (todo : List Byte) (total : Nat) :
    (s.encodeTick todo total).src = s.src ∧ (s.encodeTick todo total).snk = s.snk ++ todo.take 1 ∧
      (s.encodeTick todo total).link = s.link ∧ (s.encodeTick todo total).flushCalls = s.flushCalls := by
  cases todo with
  | nil => exact ⟨rfl, (List.append_nil _).symm, rfl, rfl⟩
  | cons b rest => exact ⟨rfl, rfl, rfl, rfl⟩

/-- A turn of the block reads SRC in DECODE's loop only. -/
theorem blockStep_src {s t : State} (h : blockStep s = .next t) (hp : s.port ≠ .decoding) : t.src = s.src := by
  obtain ⟨-, rfl⟩ | ⟨w, i, -, -, hexec⟩ | ⟨w, -, rfl⟩ | ⟨todo, total, -, rfl⟩ | ⟨hdec, -⟩ | ⟨hdec, -⟩ :=
    blockStep_cases h
  · rfl
  · exact exec_src hexec
  · rfl
  · exact (s.encodeTick_queues todo total).1
  · exact absurd hdec hp
  · exact absurd hdec hp

/-- A turn of the block acts on the sink in ENCODE's writes and for FLUSH only. -/
theorem blockStep_sink {s t : State} (h : blockStep s = .next t) (hencode : ∀ todo n, s.port ≠ .encoding todo n)
    (hflush : ∀ w, s.port = .issued w → opField w ≠ 0x06) :
    t.snk = s.snk ∧ t.link = s.link ∧ t.flushCalls = s.flushCalls := by
  obtain ⟨-, rfl⟩ | ⟨w, i, hp, hd, hexec⟩ | ⟨w, -, rfl⟩ | ⟨todo, total, hp, -⟩ | ⟨-, used, left, rfl⟩ | ⟨-, rfl⟩ :=
    blockStep_cases h
  · exact ⟨rfl, rfl, rfl⟩
  · have hne : i ≠ .flush := by
      rintro rfl
      exact hflush w hp (opField_of_flush hd)
    exact (exec_sameLink hexec hne).2
  · exact ⟨rfl, rfl, rfl⟩
  · exact absurd hp (hencode todo total)
  · exact (s.rxBytes_onlyRxSide used).sameLink.2
  · exact ⟨rfl, rfl, rfl⟩

/-- A turn of the block in ENCODE's writes appends the next byte to SNK, and delivers and flushes nothing. -/
theorem blockStep_writes {s t : State} {todo : List Byte} {total : Nat} (h : blockStep s = .next t)
    (hp : s.port = .encoding todo total) :
    t.link = s.link ∧ t.flushCalls = s.flushCalls ∧ t.snk = s.snk ++ todo.take 1 := by
  cases (blockStep_of_encoding hp).symm.trans h
  obtain ⟨-, hsnk, hlink, hcalls⟩ := s.encodeTick_queues todo total
  exact ⟨hlink, hcalls, hsnk⟩

/-- Settles O48: a reset that is due leaves the queues (70_reset_and_hazards.md R242) and is never due while ENCODE writes;
the block's own turn moves them as its port says. -/
theorem onlyDecodeReadsAndOnlyEncodeWrites : Obligations.OnlyDecodeReadsAndOnlyEncodeWrites := by
  intro s u t hu h
  obtain ⟨hdue, rfl⟩ | hturn := step_blockMoves_cases hu h
  · refine ⟨fun _ => rfl, fun _ _ => ⟨rfl, rfl, rfl⟩, fun todo n hp => ?_⟩
    have hbusy : s.resetDue = false := State.resetDue_of_busy (by rw [hp]; rfl)
    rw [hdue] at hbusy
    cases hbusy
  · rw [State.eq_of_nextMove hu] at hturn
    have hread := blockStep_src hturn
    have hsink := blockStep_sink hturn
    have hwrite (todo : List Byte) (n : Nat) := blockStep_writes (todo := todo) (total := n) hturn
    exact ⟨hread, hsink, hwrite⟩

end Sys2Proof.Machine

/-! PROOF. Both encodings (30_encoding.md R85 to R91, R95): the command words as rows of the opcode map, the wire symbols by
their first byte, and the words and lines that R95 writes out. -/

namespace Sys2Proof

/-! ### Command words (R87 to R91) -/

/-- A built word decodes to the instruction that its opcode's row makes of its fields, whatever they hold (R89). -/
theorem decode_cmdWord {op : Byte} {a : Half} {b : Byte} {i : Instr}
    (h : (cmdTable.find? (fun r => r.op == op)).map (fun row => row.build a b) = some i) :
    decode (.cmd1 (cmdWord op a b)) = .instr i := by
  obtain ⟨row, hrow, rfl⟩ := Option.map_eq_some_iff.1 h
  have hfound : cmdTable.find? (fun r => r.op == opField (cmdWord op a b)) = some row := by rwa [opField_cmdWord]
  simpa [decode] using decodeCmd_of_row hfound

/-- A word is rejected exactly when no row of the opcode map has its opcode (R90). -/
theorem decodeCmd_reject_iff (w : Word) :
    decodeCmd w = .reject .unassignedOpcode ↔ ∀ row ∈ cmdTable, row.op ≠ opField w := by
  unfold decodeCmd
  split
  next row hrow =>
    have hop : row.op = opField w := by simpa using List.find?_some hrow
    simpa using ⟨row, List.mem_of_find?_eq_some hrow, hop⟩
  next hnone => simpa using hnone

/-- Two words of one opcode decode alike when its row makes one instruction of the fields of both. -/
theorem decodeCmd_congr {v w : Word} (hop : opField v = opField w)
    (hbuild : ∀ row ∈ cmdTable, row.op = opField w →
      row.build (aField v) (bField v) = row.build (aField w) (bField w)) : decodeCmd v = decodeCmd w := by
  unfold decodeCmd
  rw [hop]
  split
  next row hrow =>
    rw [hbuild row (List.mem_of_find?_eq_some hrow) (by simpa using List.find?_some hrow)]
  next => rfl

/-- Encoding a row's instruction gives the row's opcode, its used fields, and zero for the others (R89, R91). -/
theorem encode_build (row : CmdRow) (h : row ∈ cmdTable) (a : Half) (b : Byte) :
    encode (row.build a b) = .cmd1 (cmdWord row.op
      (if row.op ∈ [0x02, 0x03, 0x22, 0x32] then a else 0) (if row.op ∈ [0x01, 0x03, 0x24, 0x34] then b else 0)) := by
  revert row
  simp [cmdTable, encode]

/-- The rows that use no field A (R89). -/
theorem build_ignores_a (row : CmdRow) (h : row ∈ cmdTable) (hop : row.op ∉ [0x02, 0x03, 0x22, 0x32]) (a a' : Half)
    (b : Byte) : row.build a b = row.build a' b := by
  revert row
  simp [cmdTable]

/-- The rows that use no field B (R89). -/
theorem build_ignores_b (row : CmdRow) (h : row ∈ cmdTable) (hop : row.op ∉ [0x01, 0x03, 0x24, 0x34]) (a : Half)
    (b b' : Byte) : row.build a b = row.build a b' := by
  revert row
  simp [cmdTable]

/-! ### Wire symbols (R85, R86) -/

/-- With an escape pending, a byte that is no raw START completes its pair. -/
theorem decodeWire_pending {x : Byte} (hx : x ≠ startByte) (rest : List Byte) :
    decodeWire true (x :: rest) = .instr (escSymbol x, rest) := by
  simp [decodeWire, afterEscape, hx]

/-- At a symbol boundary, an escape byte and a byte that is no raw START are a pair. -/
theorem decodeWire_pair {x : Byte} (hx : x ≠ startByte) (rest : List Byte) :
    decodeWire false (escByte :: x :: rest) = .instr (escSymbol x, rest) := by
  simp [decodeWire, hx, show escByte ≠ startByte by decide]

/-- At a symbol boundary, a byte that is neither START nor the escape byte is a data byte. -/
theorem decodeWire_data {r : Byte} (hstart : r ≠ startByte) (hesc : r ≠ escByte) (rest : List Byte) :
    decodeWire false (r :: rest) = .instr (.wireData r, rest) := by
  simp [decodeWire, hstart, hesc]

/-- A pair whose data byte is no raw START is a whole symbol. -/
theorem decode_pair {x : Byte} (hx : x ≠ startByte) : decode (.wire [escByte, x]) = .instr (escSymbol x) := by
  simp [decode, decodeWire_pair hx]

/-- Every pair symbol is sent as the escape byte and its data byte (R85, R176). -/
theorem encode_escSymbol (x : Byte) : encode (escSymbol x) = .wire [escByte, x] := by
  unfold escSymbol
  split_ifs <;> subst_vars <;> rfl

/-- WIRE_ESC_OTHER stands for the pairs of the bytes that have no row of their own. -/
theorem wf_wireEscOther {x : Byte} (h : (Instr.wireEscOther x).wf = true) :
    x ≠ startByte ∧ escSymbol x = .wireEscOther x := by
  simp only [Instr.wf, Bool.and_eq_true, bne_iff_ne] at h
  obtain ⟨⟨⟨⟨hstart, h5E⟩, h5D⟩, h31⟩, h33⟩ := h
  exact ⟨hstart, by rw [escSymbol, if_neg h5E, if_neg h5D, if_neg h31, if_neg h33]⟩

theorem wf_wireData {b : Byte} (h : (Instr.wireData b).wf = true) : b ≠ startByte ∧ b ≠ escByte := by
  simpa [Instr.wf, startByte, escByte] using h

/-! ### The statements about encodings -/

/-- Settles O1: a command's word selects its row, and a wire symbol's bytes are read back by their first byte. -/
theorem decodeInvertsEncode : Obligations.DecodeInvertsEncode := by
  intro i hwf
  cases i with
  | txSetType | txSetLen | txWrite | txCsum | encode | flush | decode | rdStatus | rdTxstat | txRdType | txRdLen
  | txRdByte | txRdCsum | txVerify | rxRdType | rxRdLen | rxRdByte | rxRdCsum | rxVerify =>
    exact decode_cmdWord (by rfl)
  | wireStart => rfl
  | wireEsc7E | wireEsc7D | wireEsc11 | wireEsc13 => exact decode_pair (by decide)
  | wireEscOther x =>
    obtain ⟨hstart, hsymbol⟩ := wf_wireEscOther hwf
    rw [← hsymbol, encode_escSymbol, decode_pair hstart]
  | wireData b =>
    obtain ⟨hstart, hesc⟩ := wf_wireData hwf
    simp [encode, decode, decodeWire_data hstart hesc]

/-- Settles O2: what a word decodes to is built by its opcode's row, and encoding that keeps the row's own fields. -/
theorem encodeZeroesIgnoredFields : Obligations.EncodeZeroesIgnoredFields := by
  intro w i h
  obtain ⟨row, hrow, hop, rfl⟩ := Machine.decodeCmd_row h
  rw [← hop]
  exact encode_build row hrow _ _

/-- Settles O4: the row of the opcode makes one instruction of both words. -/
theorem ignoredFieldsChangeNothing : Obligations.IgnoredFieldsChangeNothing := by
  refine fun op a a' b b' => ⟨fun hop => decodeCmd_congr (by simp) fun row hrow heq => ?_,
    fun hop => decodeCmd_congr (by simp) fun row hrow heq => ?_⟩
  · obtain rfl : row.op = op := by simpa using heq
    simpa using build_ignores_a row hrow hop a a' b
  · obtain rfl : row.op = op := by simpa using heq
    simpa using build_ignores_b row hrow hop a b b'

/-- Settles O5: each word is read by the decoder. -/
theorem wordsOfTheSpecDecode : Obligations.WordsOfTheSpecDecode := by
  unfold Obligations.WordsOfTheSpecDecode
  decide

/-- Settles O6: one lemma for each class of byte. -/
theorem wireSymbolsAreClassified : Obligations.WireSymbolsAreClassified := fun _ x rest =>
  ⟨rfl, rfl, fun hstart hesc => decodeWire_data hstart hesc rest,
    fun hx => ⟨decodeWire_pair hx rest, decodeWire_pending hx rest, encode_escSymbol x⟩⟩

/-- Settles O7: each line is read by the assembler. -/
theorem assemblerGivesTheWordsOfTheSpec : Obligations.AssemblerGivesTheWordsOfTheSpec := by
  unfold Obligations.AssemblerGivesTheWordsOfTheSpec
  decide

end Sys2Proof

/-! PROOF. The command port (30_encoding.md R90, R94) and the wire symbols at a symbol boundary (R85, 42_decoder.md R173,
R176): what a step does with an issued word, and which data symbol a pair or a data byte is. -/

namespace Sys2Proof.Machine

/-! ### Issued words (R90, R94) -/

/-- Once the port holds a word, the block's turn runs it: no reset is due while a command executes (R94). -/
theorem step_of_issued {s u : State} {w : Word} (hp : s.port = .issued w) (hu : BlockMoves s u) :
    step s = blockStep u ∧ u.port = .issued w :=
  ⟨step_of_move (State.resetDue_of_busy (by rw [hp]; rfl)) hu, by rw [State.eq_of_nextMove hu]; exact hp⟩

theorem SameBlock.raiseCmdError (s : State) (rc : RespCode) : SameBlock s (s.raiseCmdError rc) := by
  obtain ⟨hrx, hdec⟩ := SameRxSide.refl s
  exact ⟨SameTx.refl s, hrx, hdec, SameLink.refl s, SameRest.refl s⟩

/-- The opcodes with no row are those that R90 lists. -/
theorem no_row_iff (op : Byte) :
    (∀ row ∈ cmdTable, row.op ≠ op) ↔
      op.toNat = 0x00 ∨ (0x07 ≤ op.toNat ∧ op.toNat ≤ 0x0F) ∨ (0x13 ≤ op.toNat ∧ op.toNat ≤ 0x1F) ∨
        (0x25 ≤ op.toNat ∧ op.toNat ≤ 0x2F) ∨ 0x35 ≤ op.toNat := by
  simp only [cmdTable, BitVec.ofNat_eq_ofNat, List.mem_cons, List.not_mem_nil, or_false, ne_eq, forall_eq_or_imp,
    forall_eq, ← BitVec.toNat_inj, BitVec.toNat_ofNat, Nat.reducePow, Nat.one_mod, Nat.reduceMod]
  omega

/-- Settles O3: the rejected opcodes are the table's gaps, and the block's turn answers such a word BAD_OPCODE. -/
theorem unassignedOpcodesAnswerBadOpcode : Obligations.UnassignedOpcodesAnswerBadOpcode := by
  refine fun w => ⟨(decodeCmd_reject_iff w).trans (no_row_iff _), fun s u hd hp hu => ?_⟩
  obtain ⟨hstep, hport⟩ := step_of_issued hp hu
  exact ⟨u.raiseCmdError .badOpcode, hstep.trans (blockStep_of_rejected hport hd), rfl, SameBlock.raiseCmdError u _⟩

/-- Settles O39: each way to the block's turn is the next move, and the turn runs what the word decodes to. -/
theorem stepRunsTheIssuedCommand : Obligations.StepRunsTheIssuedCommand := by
  intro s w i hp hd
  have hall (u : State) (hu : BlockMoves s u) : step s = exec i u := by
    obtain ⟨hstep, hport⟩ := step_of_issued hp hu
    exact hstep.trans (blockStep_of_issued hport hd)
  exact ⟨fun ⟨hsched, hlater⟩ => hall s (State.nextMove_of_idle hsched hlater),
    fun _ hsched => hall _ (State.nextMove_of_sched hsched),
    fun _ hsched hlater => hall _ (State.nextMove_of_cycle hsched hlater), hall⟩

/-- Settles O41: with no reset latched the step is the host's, which asks the port whether it accepts. -/
theorem commandsAreIssuedOneAtATime : Obligations.CommandsAreIssuedOneAtATime := by
  intro s u w hu hlatch
  have hstep : step s = hostStep w u := step_of_move (by simp [State.resetDue, hlatch]) hu
  have hport : u.port = s.port := by rw [State.eq_of_nextMove hu]
  rw [hstep, hostStep, hport]
  refine ⟨fun hfree => if_pos ?_, fun hbusy => if_neg ?_⟩
  · obtain hp | ⟨r, hp⟩ := hfree <;> rw [hp] <;> rfl
  · obtain hp | ⟨w', hp⟩ | ⟨todo, n, hp⟩ := hbusy <;> rw [hp] <;> exact Bool.false_ne_true

/-! ### Wire symbols at a symbol boundary (R85, 42_decoder.md R173, R176) -/

section
variable {s : State} (hs : s.rxStat = .pending)
include hs

/-- Inside a frame a pair is the data symbol of its second byte ^ 20. -/
theorem exec_escSymbol_inFrame (he : s.decEsc = false) (hd : s.decSt ≠ .awaitStart) {x : Byte} (hx : x ≠ startByte) :
    exec (escSymbol x) s = .next (s.dataSymbol (x ^^^ 0x20)) := by
  have hback : { s with decEsc := false } = s := by rw [← he]
  rw [exec_escSymbol, State.rxEscaped_boundary he, State.rxBytes_cons, State.rxByte_escape hs hd he, State.rxBytes_cons,
    State.rxByte_data (s := { s with decEsc := true }) hs hd hx (.inl rfl)]
  simp [State.unescape, hback]

/-- Inside a frame a data byte is its own data symbol. -/
theorem exec_wireData_inFrame (he : s.decEsc = false) (hd : s.decSt ≠ .awaitStart) {b : Byte} (hstart : b ≠ startByte)
    (hesc : b ≠ escByte) : exec (.wireData b) s = .next (s.dataSymbol b) := by
  have hback : { s with decEsc := false } = s := by rw [← he]
  have hbyte : s.rxByte b = s.dataSymbol b := by
    rw [State.rxByte_data hs hd hstart (.inr hesc)]
    simp [State.unescape, he, hback]
  exact congrArg _ hbyte

/-- While hunting any byte but START is discarded. -/
theorem State.rxByte_discarded (hd : s.decSt = .awaitStart) {b : Byte} (hb : b ≠ startByte) : s.rxByte b = s := by
  rw [State.rxByte_hunting hs hd, State.awaitStart, if_neg hb]

/-- While hunting a pair is discarded byte by byte. -/
theorem exec_escSymbol_hunting (he : s.decEsc = false) (hd : s.decSt = .awaitStart) {x : Byte} (hx : x ≠ startByte) :
    exec (escSymbol x) s = .next s := by
  rw [exec_escSymbol, State.rxEscaped_boundary he, State.rxBytes_cons, State.rxByte_discarded hs hd (by decide),
    State.rxBytes_cons, State.rxByte_discarded hs hd hx, State.rxBytes_nil]

end

/-- Settles O31: the four pairs of the table and WIRE_ESC_OTHER are the pair symbol of their second byte. -/
theorem escapePairsStandForTheirByte : Obligations.EscapePairsStandForTheirByte := by
  refine fun s hs he => ⟨fun hd => ?_, fun hd => ?_⟩
  · have hpair (x : Byte) (hx : x ≠ startByte) := exec_escSymbol_inFrame hs he hd hx
    refine ⟨hpair 0x5E (by decide), hpair 0x5D (by decide), hpair 0x31 (by decide), hpair 0x33 (by decide),
      fun x hwf => ?_, fun b hwf => ?_⟩
    · obtain ⟨hstart, hsymbol⟩ := wf_wireEscOther hwf
      exact hsymbol ▸ hpair x hstart
    · obtain ⟨hstart, hesc⟩ := wf_wireData hwf
      exact exec_wireData_inFrame hs he hd hstart hesc
  · have hpair (x : Byte) (hx : x ≠ startByte) := exec_escSymbol_hunting hs he hd hx
    refine ⟨hpair 0x5E (by decide), hpair 0x5D (by decide), hpair 0x31 (by decide), hpair 0x33 (by decide),
      fun x hwf => ?_, fun b hwf => ?_⟩
    · obtain ⟨hstart, hsymbol⟩ := wf_wireEscOther hwf
      exact hsymbol ▸ hpair x hstart
    · obtain ⟨hstart, -⟩ := wf_wireData hwf
      exact congrArg _ (State.rxByte_discarded hs hd hstart)

end Sys2Proof.Machine

/-! PROOF. TX_BUILD (30_encoding.md R97): its commands respond OK one after the other, the writes fill the payload from its
first index on, and nothing but the TX frame and the port changes (40_frame_access.md R111 to R114). -/

namespace Sys2Proof.Machine

/-! ### Commands that all respond OK -/

/-- The instructions run one after the other from `s` to `u`, and after each the port holds a response OK (R93). -/
inductive RunsOk : List Instr → State → State → Prop where
  | nil (s : State) : RunsOk [] s s
  | cons {i : Instr} {rest : List Instr} {s t u : State} {v : Word} (hexec : exec i s = .next t)
      (hport : t.port = .responded ⟨.ok, v⟩) (hrest : RunsOk rest t u) : RunsOk (i :: rest) s u

theorem RunsOk.execAll_eq {is : List Instr} {s u : State} (h : RunsOk is s u) : execAll is s = .next u := by
  induction h with
  | nil s => rfl
  | cons hexec _ _ ih => simpa [execAll, hexec] using ih

theorem RunsOk.append {is js : List Instr} {s t u : State} (hi : RunsOk is s t) (hj : RunsOk js t u) :
    RunsOk (is ++ js) s u := by
  induction hi with
  | nil s => exact hj
  | cons hexec hport _ ih => exact .cons hexec hport (ih hj)

/-- Each command of such a run is reached by the ones before it, and responds OK. -/
theorem RunsOk.responds {before after : List Instr} {i : Instr} {s u : State} (h : RunsOk (before ++ i :: after) s u) :
    ∃ s1 s2 v, execAll before s = .next s1 ∧ exec i s1 = .next s2 ∧ s2.port = .responded ⟨.ok, v⟩ := by
  induction before generalizing s with
  | nil =>
    cases h with
    | cons hexec hport _ => exact ⟨s, _, _, rfl, hexec, hport⟩
  | cons j before ih =>
    cases h with
    | cons hexec _ hrest =>
      obtain ⟨s1, s2, v, hbefore, hrun⟩ := ih hrest
      exact ⟨s1, s2, v, by simpa [execAll, hexec] using hbefore, hrun⟩

/-! ### The bytes of TXB (10_state.md R24) -/

@[simp] theorem State.respond_txbAt (s : State) (rc : RespCode) (val : Word) (i : Nat) :
    (s.respond rc val).txbAt i = s.txbAt i := rfl

@[simp] theorem State.writeTxb_txbAt_same (s : State) (a : Half) (b : Byte) : (s.writeTxb a b).txbAt a.toNat = b := by
  simp [State.txbAt]

theorem State.writeTxb_txbAt_other (s : State) {a : Half} {i : Nat} (b : Byte) (h : i ≠ a.toNat) :
    (s.writeTxb a b).txbAt i = s.txbAt i := by
  simp [State.txbAt, State.txbUnlisted, Memory.read_write_other _ _ h]

@[simp] theorem State.respond_txPayload (s : State) (rc : RespCode) (val : Word) :
    (s.respond rc val).txPayload = s.txPayload := rfl

@[simp] theorem State.storeTxCsum_txPayload (s : State) : s.storeTxCsum.txPayload = s.txPayload := rfl

/-- A frame length of one more than the payload announces the payload (00_scope.md R12). -/
theorem plen_ofNat_succ {k : Nat} (h : k < 65535) : (plen (BitVec.ofNat 16 (k + 1))).toNat = k := by
  have hlen : (BitVec.ofNat 16 (k + 1)).toNat = k + 1 := Nat.mod_eq_of_lt (by omega)
  have hne : BitVec.ofNat 16 (k + 1) ≠ 0 := fun h0 => by simp [h0] at hlen
  rw [plen, if_neg hne, BitVec.toNat_sub_of_le (by simp [BitVec.le_def, hlen]), hlen]
  rfl

/-! ### The commands of TX_BUILD (40_frame_access.md R112, R113) -/

theorem exec_txSetLen_legal {s : State} {a : Half} (h : s.txLenLegal a = true) :
    exec (.txSetLen a) s = .next (State.respond { s with txLen := a } .ok 0) := congrArg _ (if_pos h)

theorem exec_txWrite_legal {s : State} {a : Half} (h : s.txIndexLegal a = true) (b : Byte) :
    exec (.txWrite a b) s = .next ((s.writeTxb a b).respond .ok 0) := congrArg _ (if_pos h)

/-- TX_WRITE of each payload byte in order, from index n on: `txWrites` from a later byte. -/
def txWritesFrom (n : Nat) (payload : List Byte) : List Instr :=
  (payload.zipIdx n).map (fun byteAt => .txWrite (BitVec.ofNat 16 byteAt.2) byteAt.1)

theorem txWrites_eq_txWritesFrom (payload : List Byte) : txWrites payload = txWritesFrom 0 payload := rfl

theorem txWritesFrom_cons (n : Nat) (b : Byte) (payload : List Byte) :
    txWritesFrom n (b :: payload) = .txWrite (BitVec.ofNat 16 n) b :: txWritesFrom (n + 1) payload := rfl

/-- The writes by index, as R97 writes them. -/
theorem txWrites_eq_range (payload : List Byte) :
    txWrites payload =
      (List.range payload.length).map (fun i => Instr.txWrite (BitVec.ofNat 16 i) (payload.getD i 0x00)) := by
  refine List.ext_getElem (by simp [txWrites]) fun i hi _ => ?_
  have hlen : i < payload.length := by simpa [txWrites] using hi
  simp [txWrites, hlen]

/-- Writes inside the payload all respond OK, store their bytes from index n on, and leave everything else but the port. -/
theorem runsOk_txWritesFrom (payload : List Byte) {n : Nat} {s : State}
    (hroom : n + payload.length ≤ (plen s.txLen).toNat) :
    ∃ u, RunsOk (txWritesFrom n payload) s u ∧ u = { s with txb := u.txb, port := u.port } ∧
      (∀ i < n, u.txbAt i = s.txbAt i) ∧ ∀ i (hi : i < payload.length), u.txbAt (n + i) = payload[i] := by
  induction payload generalizing n s with
  | nil => exact ⟨s, .nil s, rfl, fun _ _ => rfl, fun _ hi => nomatch hi⟩
  | cons b payload ih =>
    rw [List.length_cons] at hroom
    have hn : (BitVec.ofNat 16 n).toNat = n := Nat.mod_eq_of_lt (by have := (plen s.txLen).isLt; omega)
    have hlegal : s.txIndexLegal (BitVec.ofNat 16 n) = true := by
      simp only [State.txIndexLegal, decide_eq_true_eq, BitVec.lt_def, hn]
      omega
    obtain ⟨u, hrun, hframe, hbelow, hstored⟩ :=
      ih (n := n + 1) (s := (s.writeTxb (BitVec.ofNat 16 n) b).respond .ok 0) (by simpa using by omega)
    refine ⟨u, .cons (exec_txWrite_legal hlegal b) rfl hrun, hframe, fun i hi => ?_, fun i hi => ?_⟩
    · rw [hbelow i (by omega), State.respond_txbAt, State.writeTxb_txbAt_other s b (by omega)]
    · cases i with
      | zero =>
        have hwritten := s.writeTxb_txbAt_same (BitVec.ofNat 16 n) b
        rw [hn] at hwritten
        rw [Nat.add_zero, hbelow n (by omega), State.respond_txbAt, hwritten, List.getElem_cons_zero]
      | succ i =>
        rw [List.getElem_cons_succ, ← hstored i (by simpa using hi)]
        congr 1
        omega

/-- The outbound payload is read off TXB byte by byte. -/
theorem State.txPayload_eq {s : State} {payload : List Byte} (hlen : (plen s.txLen).toNat = payload.length)
    (hbytes : ∀ i (hi : i < payload.length), s.txbAt i = payload[i]) : s.txPayload = payload :=
  List.ext_getElem (by simp [State.txPayload, hlen]) fun i _ hi => by simp [State.txPayload, hbytes i hi]

/-- TX_BUILD's commands respond OK and leave the frame built, and change the TX frame and the port only. -/
theorem runsOk_txBuild {s : State} (t : Byte) {payload : List Byte} (hcap : payload.length ≤ s.cfg.txCap) :
    ∃ u, RunsOk (txBuild t payload) s u ∧ u.txType = t ∧ u.txLen = BitVec.ofNat 16 (payload.length + 1) ∧
      u.txPayload = payload ∧ u.txCsum = chk t payload ∧ u.txCsv = true ∧
      u = { s with
        txType := u.txType, txLen := u.txLen, txb := u.txb, txCsum := u.txCsum, txCsv := u.txCsv, port := u.port } := by
  have hmax : s.cfg.txCap ≤ 65534 := s.cfg.txCapPred.isLt
  have hplen := plen_ofNat_succ (k := payload.length) (by omega)
  have hlegal : ({ s with txType := t }.respond .ok 0).txLenLegal (BitVec.ofNat 16 (payload.length + 1)) = true := by
    simpa [State.txLenLegal, hplen] using hcap
  obtain ⟨u, hrun, hframe, -, hstored⟩ := runsOk_txWritesFrom payload (n := 0)
    (s := State.respond { s with txType := t, txLen := BitVec.ofNat 16 (payload.length + 1) } .ok 0)
    (by simp [hplen])
  have hpayload : u.txPayload = payload :=
    State.txPayload_eq (by rw [hframe]; exact hplen) fun i hi => by simpa using hstored i hi
  have htype : u.txType = t := by rw [hframe]; rfl
  have hchk : u.txChk = chk t payload := by rw [State.txChk, hpayload, htype]
  have hlen : u.txLen = BitVec.ofNat 16 (payload.length + 1) := by rw [hframe]; rfl
  refine ⟨u.storeTxCsum.respond .ok (byteResult u.txChk), ?_, by simpa using htype, by simpa using hlen,
    by simpa using hpayload, by simpa using hchk, by simp, ?_⟩
  · rw [txBuild, txWrites_eq_txWritesFrom]
    exact .cons rfl rfl (.cons (exec_txSetLen_legal hlegal) rfl (hrun.append (.cons rfl rfl (.nil _))))
  · rw [hframe]; rfl

/-- Settles O60: the run of TX_BUILD's commands, each of which responds OK, and the frame it leaves. -/
theorem txBuildBuildsTheFrame : Obligations.TxBuildBuildsTheFrame := by
  intro s t payload hcap
  obtain ⟨u, hrun, htype, hlen, hpayload, hcsum, hcsv, hframe⟩ := runsOk_txBuild t hcap
  refine ⟨?_, fun before i after hsplit => RunsOk.responds (hsplit ▸ hrun),
    u, hrun.execAll_eq, htype, hlen, hpayload, hcsum, hcsv, ?_, ?_⟩
  · rw [txBuild, txWrites_eq_range]; rfl
  · rw [hframe]; exact SameRxSide.refl s
  · rw [hframe]; exact ⟨SameLink.refl s, SameRest.refl s⟩

end Sys2Proof.Machine

/-! PROOF. The checksum laws (40_frame_access.md R127): the sum is the type plus the sum of the bytes. -/

namespace Sys2Proof.Machine

/-! ### The sum and the checksum -/

/-- The sum folded byte by byte is the type plus the sum of the bytes (00_scope.md R12). -/
theorem sum8_eq_add_sum (t : Byte) (bytes : List Byte) : sum8 t bytes = t + bytes.sum := by
  induction bytes generalizing t with
  | nil => simp [sum8]
  | cons b bytes ih =>
    calc sum8 t (b :: bytes) = sum8 (t + b) bytes := rfl
      _ = t + (b :: bytes).sum := by rw [ih, List.sum_cons, add_assoc]

/-- The checksum is the one byte that makes the sum FF (00_scope.md R12). -/
theorem chk_eq_iff {t c : Byte} {bytes : List Byte} : chk t bytes = c ↔ sum8 t bytes + c = 0xFF := by
  rw [chk, sub_eq_iff_eq_add', eq_comm]

theorem chk_eq_chk_iff {t u : Byte} {p q : List Byte} : chk t p = chk u q ↔ sum8 t p = sum8 u q := sub_right_inj

/-- One byte of the payload can be read off the sum, the other bytes and the type being given. -/
theorem sum8_change_byte_iff {t x y : Byte} {l r : List Byte} :
    sum8 t (l ++ x :: r) = sum8 t (l ++ y :: r) ↔ x = y := by
  simp [sum8_eq_add_sum]

theorem sum8_change_type_iff {t u : Byte} {bytes : List Byte} : sum8 t bytes = sum8 u bytes ↔ t = u := by
  simp [sum8_eq_add_sum]

/-- Settles O11: each law is one of the sum, a sum of bytes in any order, and carries over to the checksum. -/
theorem checksumLaws : Obligations.ChecksumLaws := by
  refine ⟨fun v => ⟨0xFF - v, [], by simp [chk, sum8]⟩, fun t p => ?_, fun t p => ?_, fun t p => chk_eq_iff.1 rfl,
    fun t l r x y hxy => ?_, fun t u p htu => ?_, fun t l m r x y d => ?_, fun t d x l r => ?_, fun t p q hpq => ?_⟩
  · simp [chk_eq_iff]
  · simp [chk_eq_iff]
  · exact ⟨mt sum8_change_byte_iff.1 hxy, mt (chk_eq_chk_iff.trans sum8_change_byte_iff).1 hxy⟩
  · exact ⟨mt sum8_change_type_iff.1 htu, mt (chk_eq_chk_iff.trans sum8_change_type_iff).1 htu⟩
  · rw [chk_eq_chk_iff]
    simp only [sum8_eq_add_sum, List.sum_append, List.sum_cons]
    ring
  · rw [chk_eq_chk_iff]
    simp only [sum8_eq_add_sum, List.sum_append, List.sum_cons]
    ring
  · rw [chk_eq_chk_iff, sum8_eq_add_sum, sum8_eq_add_sum, hpq.sum_eq]

end Sys2Proof.Machine

/-! PROOF. The frame access commands (40_frame_access.md R111 to R124): what each one answers and writes, and what it leaves
unchanged. -/

namespace Sys2Proof.Machine

/-! ### Command words by their opcode, and commands that only answer -/

/-- A word decodes to the instruction that its opcode's row makes of its fields (30_encoding.md R89). -/
theorem decodeCmd_of_opField {w : Word} {op : Byte} {i : Instr} (hop : opField w = op)
    (h : (cmdTable.find? (fun r => r.op == op)).map (fun row => row.build (aField w) (bField w)) = some i) :
    decodeCmd w = .instr i := by
  subst hop
  obtain ⟨row, hrow, rfl⟩ := Option.map_eq_some_iff.1 h
  exact decodeCmd_of_row hrow

/-- A command whose meaning is a response answers it and changes nothing else (R92). -/
theorem exec_answers {i : Instr} {s : State} {rc : RespCode} {val : Word} (h : exec i s = .next (s.respond rc val)) :
    ∃ t, exec i s = .next t ∧ t.port = .responded ⟨rc, val⟩ ∧ SameBlock s t :=
  ⟨_, h, rfl, s.respond_sameBlock rc val⟩

/-- Of the commands only DECODE and FLUSH change anything outside the TX frame in their own step (10_state.md R40). -/
theorem exec_outsideTx {i : Instr} {s t : State} (h : exec i s = .next t) (hcmd : i.isCommand = true)
    (hdecode : i ≠ .decode) (hflush : i ≠ .flush) : SameRxSide s t ∧ SameAround s t :=
  ⟨exec_sameRxSide h hcmd hdecode, exec_sameLink h hflush, exec_sameRest h⟩

/-! ### Legal lengths and indices (20_memory.md R51, R112) -/

/-- The payload length is the frame length less one, and 0 for 0 (00_scope.md R12). -/
theorem plen_toNat (n : Half) : (plen n).toNat = n.toNat - 1 := by
  unfold plen
  split
  next hzero => simp [hzero]
  next hne => bv_omega

theorem State.txPayload_eq_nil_iff (s : State) : s.txPayload = [] ↔ s.txLen = 0x0000 ∨ s.txLen = 0x0001 := by
  rw [State.txPayload, List.map_eq_nil_iff, List.range_eq_nil, plen_toNat]
  bv_omega

/-! ### The meanings, branch by branch (R111 to R122) -/

@[simp] theorem State.storeTxCsum_txbAt (s : State) (i : Nat) : s.storeTxCsum.txbAt i = s.txbAt i := by
  simp [State.txbAt, State.txbUnlisted]

theorem exec_txSetType (b : Byte) (s : State) :
    exec (.txSetType b) s = .next (State.respond { s with txType := b } .ok 0) := rfl

theorem exec_txCsum (s : State) : exec .txCsum s = .next (s.storeTxCsum.respond .ok (byteResult s.txChk)) := rfl

section
variable {s : State} {a : Half}

theorem exec_txSetLen_tooLong (h : s.cfg.txCap < (plen a).toNat) :
    exec (.txSetLen a) s = .next (s.respond .badLength 0) :=
  congrArg _ (if_neg (by simpa [State.txLenLegal] using h))

theorem exec_txWrite_badIndex (h : plen s.txLen ≤ a) (b : Byte) :
    exec (.txWrite a b) s = .next (s.respond .badIndex 0) :=
  congrArg _ (if_neg (by simpa [State.txIndexLegal] using h))

theorem exec_txRdByte_legal (h : a < plen s.txLen) :
    exec (.txRdByte a) s = .next (s.respond .ok (byteResult (s.txbAt a.toNat))) :=
  congrArg _ (if_pos (decide_eq_true h))

theorem exec_txRdByte_badIndex (h : plen s.txLen ≤ a) : exec (.txRdByte a) s = .next (s.respond .badIndex 0) :=
  congrArg _ (if_neg (by simpa [State.txIndexLegal] using h))

theorem exec_rxRdByte_legal (h : a < s.decCnt) :
    exec (.rxRdByte a) s = .next (s.respond .ok (byteResult (s.rxbAt a.toNat))) :=
  congrArg _ (if_pos (decide_eq_true h))

theorem exec_rxRdByte_badIndex (h : s.decCnt ≤ a) : exec (.rxRdByte a) s = .next (s.respond .badIndex 0) :=
  congrArg _ (if_neg (by simpa [State.rxIndexLegal] using h))

end

/-! ### The answer of a verify (R119, R124) -/

theorem passResult_beq (c b : Byte) : passResult (c == b) = if c = b then 1 else 0 := by
  simp [passResult]

/-- TX_VERIFY passes for the checksum of the contents only. -/
theorem exec_txVerify_passes_iff {s : State} {b : Byte} :
    (∃ t, exec (.txVerify b) s = .next t ∧ t.port = .responded ⟨.ok, 1⟩) ↔ b = s.txChk := by
  constructor
  · rintro ⟨t, ht, hport⟩
    cases ht
    by_contra hne
    simp [passResult_beq, Ne.symm hne] at hport
  · rintro rfl
    exact ⟨_, rfl, by simp [passResult]⟩

/-! ### RX_CSUM before and after the checksum byte (R123, 42_decoder.md R184) -/

section
variable {s : State}

/-- A frame with ChecksumFailure is one whose checksum byte has arrived and did not make the sum FF (R33, R184). -/
theorem RxInv.checksumFailure (h : RxInv s) (herr : s.rxErr = .checksumFailure) :
    AfterChecksum s ∧ s.decAcc ≠ 0xFF := by
  have hstat : s.rxStat = .errored := by
    by_contra hne
    simp [h.noError_iff.2 hne] at herr
  by_cases hd : s.decSt = .payload
  · obtain ⟨-, -, h⟩ := h
    rw [hd, hstat, herr] at h
    exact h.2
  · obtain ⟨-, hnone | hstart, -⟩ := h.beforeType hd
    · simp [hnone] at herr
    · simp [hstart] at herr

/-- Without a checksum step RX_CSUM is as Clear left it (R123). -/
theorem RxInv.rxCsum_of_noChecksum (h : RxInv s) (hready : s.rxStat ≠ .ready) (herr : s.rxErr ≠ .checksumFailure) :
    s.rxCsum = 0x00 := by
  by_cases hd : s.decSt = .payload
  · cases hstat : s.rxStat with
    | pending =>
      obtain ⟨-, hcsum, -⟩ := h.payload hstat hd
      exact hcsum
    | ready => exact absurd hstat hready
    | errored =>
      obtain ⟨-, -, h⟩ := h
      rw [hd, hstat] at h
      obtain ⟨-, h⟩ := h
      cases hkind : s.rxErr with
      | noError => rw [hkind] at h; exact h.elim
      | checksumFailure => exact absurd hkind herr
      | bufferCapacityExceeded =>
        rw [hkind] at h
        obtain ⟨⟨hcsum, -⟩, -⟩ := h
        exact hcsum
      | unexpectedStart => rw [hkind] at h; exact h.1
  · obtain ⟨-, -, -, -, -, hcsum⟩ := h.beforeType hd
    exact hcsum

/-- Once the checksum byte has arrived, it is the checksum of the bytes stored exactly when the sum is FF (R184). -/
theorem AfterChecksum.chk_eq_rxCsum_iff (h : AfterChecksum s) : chk s.rxType s.rxPayload = s.rxCsum ↔ s.decAcc = 0xFF := by
  obtain ⟨-, hsum, -⟩ := h
  rw [hsum, chk_eq_iff]

end

/-! ### Building the TX frame (R111 to R114) -/

/-- Settles O12: the step is a write of TX_TYPE and a response. -/
theorem txSetTypeWritesTheType : Obligations.TxSetTypeWritesTheType :=
  ⟨fun _ hop => decodeCmd_of_opField hop rfl, fun b s => ⟨_, exec_txSetType b s, rfl, rfl, rfl, rfl, rfl, fun _ => rfl,
    exec_outsideTx (exec_txSetType b s) rfl (by simp) (by simp)⟩⟩

/-- Settles O13: the length is tested against TX_CAP, and plen takes one from it unless it is 0. -/
theorem txSetLenSizesThePayload : Obligations.TxSetLenSizesThePayload := by
  refine ⟨fun _ hop => decodeCmd_of_opField hop rfl, fun a s hfits => ?_,
    fun a s hlong => exec_answers (exec_txSetLen_tooLong hlong), fun a s => ?_, State.txPayload_eq_nil_iff⟩
  · have hrun := exec_txSetLen_legal (decide_eq_true hfits)
    exact ⟨_, hrun, rfl, rfl, rfl, rfl, rfl, fun _ => rfl, exec_outsideTx hrun rfl (by simp) (by simp)⟩
  · rw [plen_toNat]
    omega

/-- Settles O14: at a legal index one byte of TXB is written, and any other index is answered BAD_INDEX. -/
theorem txWriteStoresOneByte : Obligations.TxWriteStoresOneByte := by
  refine ⟨fun _ hop => decodeCmd_of_opField hop rfl, fun a b s hlt => ?_,
    fun a b s hle => exec_answers (exec_txWrite_badIndex hle b)⟩
  have hrun := exec_txWrite_legal (decide_eq_true hlt) b
  exact ⟨_, hrun, rfl, s.writeTxb_txbAt_same a b, fun _ hi => s.writeTxb_txbAt_other b hi, ⟨rfl, rfl, rfl, rfl⟩,
    exec_outsideTx hrun rfl (by simp) (by simp)⟩

/-- Settles O15: the step stores the checksum, sets TX_CSV, and answers the same value. -/
theorem txCsumStoresTheChecksum : Obligations.TxCsumStoresTheChecksum :=
  ⟨fun _ hop => decodeCmd_of_opField hop rfl, fun s => ⟨_, exec_txCsum s, rfl, rfl, rfl, by simp, by simp, by simp,
    exec_outsideTx (exec_txCsum s) rfl (by simp) (by simp)⟩⟩

/-! ### Reading the TX frame (R115 to R119) -/

/-- Settles O16: each read answers its register, and `TxInv` says that TX_CSUM is 0 while TX_CSV is. -/
theorem txRegisterReadsAnswerTheRegister : Obligations.TxRegisterReadsAnswerTheRegister := by
  refine ⟨fun w => ⟨fun hop => decodeCmd_of_opField hop rfl, fun hop => decodeCmd_of_opField hop rfl,
    fun hop => decodeCmd_of_opField hop rfl⟩, fun s => ⟨exec_answers rfl, exec_answers rfl, ?_⟩⟩
  refine ⟨_, rfl, rfl, s.respond_sameBlock _ _, fun ⟨_, hzero⟩ hcsv => ?_⟩
  rw [State.respond_port, hzero hcsv]
  rfl

/-- Settles O17: a legal index is answered with TXB's byte, which is the reset draw where no write is listed. -/
theorem txRdByteAnswersTheByte : Obligations.TxRdByteAnswersTheByte := by
  refine ⟨fun _ hop => decodeCmd_of_opField hop rfl, fun a s hlt => exec_answers (exec_txRdByte_legal hlt),
    fun a s hle => exec_answers (exec_txRdByte_badIndex hle), fun i s hnone => ?_⟩
  rw [State.txbAt, hnone, Option.getD_none, State.txbUnlisted]

/-- Settles O18: the answer compares B with the checksum of the contents, which is the one B that passes. -/
theorem txVerifyChecksTheContents : Obligations.TxVerifyChecksTheContents := by
  refine ⟨fun _ hop => decodeCmd_of_opField hop rfl, fun b s => ?_, fun s => ?_⟩
  · rw [← passResult_beq]
    exact exec_answers rfl
  · exact ⟨s.txChk, exec_txVerify_passes_iff.2 rfl, fun b hb => exec_txVerify_passes_iff.1 hb⟩

/-! ### Reading the RX frame (R120 to R124) -/

/-- Settles O19: each read answers its register, and `RxInv` says which registers are still as Clear left them. -/
theorem rxRegisterReadsAnswerTheRegister : Obligations.RxRegisterReadsAnswerTheRegister := by
  refine ⟨fun w => ⟨fun hop => decodeCmd_of_opField hop rfl, fun hop => decodeCmd_of_opField hop rfl,
    fun hop => decodeCmd_of_opField hop rfl⟩, fun s => ⟨exec_answers rfl, exec_answers rfl, exec_answers rfl⟩,
    fun s h => ⟨fun hd => ?_, h.rxLen_of_oneByte, h.rxCsum_of_noChecksum⟩⟩
  obtain ⟨-, -, -, -, htype, -⟩ := h.beforeType hd
  exact htype

/-- Settles O20: an index below DEC_CNT is answered with RXB's byte; a Ready frame has received its whole payload, and
after Clear DEC_CNT is 0. -/
theorem rxRdByteAnswersTheByte : Obligations.RxRdByteAnswersTheByte := by
  refine ⟨fun _ hop => decodeCmd_of_opField hop rfl, fun a s hlt => exec_answers (exec_rxRdByte_legal hlt),
    fun a s hle => exec_answers (exec_rxRdByte_badIndex hle), fun s h hready => ?_, fun a s => ?_⟩
  · obtain ⟨⟨hcnt, -, -⟩, -⟩ := h.ready hready
    exact hcnt
  · exact ⟨_, exec_rxRdByte_badIndex (s := s.clear) (Nat.zero_le a.toNat), rfl⟩

/-- Settles O21: the answer compares B with the checksum of the bytes stored, and a received checksum is that value
exactly when the sum came to FF. -/
theorem rxVerifyChecksTheStoredBytes : Obligations.RxVerifyChecksTheStoredBytes := by
  refine ⟨fun _ hop => decodeCmd_of_opField hop rfl, fun b s => ?_, fun s h => ⟨fun hready => ?_, fun herr => ?_⟩⟩
  · rw [← passResult_beq]
    exact exec_answers rfl
  · obtain ⟨hafter, hpass⟩ := h.ready hready
    exact hafter.chk_eq_rxCsum_iff.2 hpass
  · obtain ⟨hafter, hfail⟩ := h.checksumFailure herr
    exact mt hafter.chk_eq_rxCsum_iff.1 hfail

end Sys2Proof.Machine

/-! PROOF. Byte stuffing (30_encoding.md R85, 41_encoder.md R152, R156, R157): the two forms of a stuffed byte, the stuffed
sequence's bytes and length, and that the decoder's byte step undoes it inside a frame (42_decoder.md R175, R176). -/

namespace Sys2Proof.Machine

/-! ### One byte (R85) -/

/-- The four reserved bytes (00_scope.md R12). -/
theorem reserved_iff {b : Byte} : reserved b = true ↔ b = 0x7E ∨ b = 0x7D ∨ b = 0x11 ∨ b = 0x13 := by
  simp [reserved, or_assoc]

theorem reserved_eq_false_iff {b : Byte} : reserved b = false ↔ b ≠ 0x7E ∧ b ≠ 0x7D ∧ b ≠ 0x11 ∧ b ≠ 0x13 := by
  simp [reserved, and_assoc]

theorem esc_of_reserved {b : Byte} (h : reserved b = true) : esc b = [escByte, b ^^^ 0x20] := if_pos h

theorem esc_of_plain {b : Byte} (h : reserved b = false) : esc b = [b] := by simp [esc, h]

/-- The byte sent after an escape byte is one of four (R156). -/
theorem reserved_xor_mem {b : Byte} (h : reserved b = true) : b ^^^ 0x20 ∈ ([0x5E, 0x5D, 0x31, 0x33] : List Byte) := by
  obtain rfl | rfl | rfl | rfl := reserved_iff.1 h <;> decide

/-- None of the four is reserved (R157). -/
theorem reserved_xor {b : Byte} (h : reserved b = true) : reserved (b ^^^ 0x20) = false := by
  obtain rfl | rfl | rfl | rfl := reserved_iff.1 h <;> decide

/-- A byte is sent as two bytes when it is reserved, and as one otherwise (R152). -/
theorem esc_length (b : Byte) : (esc b).length = if reserved b then 2 else 1 := by
  unfold esc
  split <;> rfl

/-- No byte of a stuffed byte is a raw 7E, 11 or 13. -/
theorem not_raw_of_mem_esc {b c : Byte} (h : c ∈ esc b) : c ≠ 0x7E ∧ c ≠ 0x11 ∧ c ≠ 0x13 := by
  cases hb : reserved b with
  | true =>
    rw [esc_of_reserved hb, List.mem_pair] at h
    obtain rfl | rfl := h
    · decide
    · obtain ⟨hstart, -, hxon, hxoff⟩ := reserved_eq_false_iff.1 (reserved_xor hb)
      exact ⟨hstart, hxon, hxoff⟩
  | false =>
    rw [esc_of_plain hb, List.mem_singleton] at h
    subst h
    obtain ⟨hstart, -, hxon, hxoff⟩ := reserved_eq_false_iff.1 hb
    exact ⟨hstart, hxon, hxoff⟩

/-! ### Sequences -/

@[simp] theorem escAll_nil : escAll [] = [] := rfl

@[simp] theorem escAll_cons (b : Byte) (bytes : List Byte) : escAll (b :: bytes) = esc b ++ escAll bytes := rfl

@[simp] theorem escAll_append (xs ys : List Byte) : escAll (xs ++ ys) = escAll xs ++ escAll ys := List.flatMap_append

/-- The length of a stuffed sequence, byte by byte (R152). -/
theorem escAll_length (bytes : List Byte) :
    (escAll bytes).length = (bytes.map (fun b => if reserved b then 2 else 1)).sum := by
  simp [escAll, List.length_flatMap, esc_length]

/-- Byte stuffing never shortens a sequence. -/
theorem length_le_escAll_length (bytes : List Byte) : bytes.length ≤ (escAll bytes).length := by
  induction bytes with
  | nil => exact Nat.zero_le _
  | cons b rest ih =>
    have hb : 1 ≤ (esc b).length := by rw [esc_length]; split <;> decide
    rw [escAll_cons, List.length_append, List.length_cons]
    omega

theorem not_raw_of_mem_escAll {bytes : List Byte} {c : Byte} (h : c ∈ escAll bytes) :
    c ≠ 0x7E ∧ c ≠ 0x11 ∧ c ≠ 0x13 := by
  obtain ⟨b, -, hc⟩ := List.mem_flatMap.1 h
  exact not_raw_of_mem_esc hc

/-- Every 7D of a stuffed sequence begins a reserved byte's pair (R156). -/
theorem escAll_escape_followed {bytes before after : List Byte} (h : escAll bytes = before ++ escByte :: after) :
    ∃ x after', after = x :: after' ∧ x ∈ ([0x5E, 0x5D, 0x31, 0x33] : List Byte) := by
  induction bytes generalizing before with
  | nil => simp at h
  | cons b rest ih =>
    cases hb : reserved b with
    | true =>
      rw [escAll_cons, esc_of_reserved hb] at h
      match before with
      | [] => exact ⟨_, _, (List.cons.inj h).2.symm, reserved_xor_mem hb⟩
      | [_] =>
        have hx : b ^^^ 0x20 = escByte := (List.cons.inj (List.cons.inj h).2).1
        obtain ⟨-, hne, -⟩ := reserved_eq_false_iff.1 (reserved_xor hb)
        exact absurd hx hne
      | _ :: _ :: before => exact ih (List.cons.inj (List.cons.inj h).2).2
    | false =>
      rw [escAll_cons, esc_of_plain hb] at h
      match before with
      | [] =>
        obtain ⟨-, hne, -⟩ := reserved_eq_false_iff.1 hb
        exact absurd (List.cons.inj h).1 hne
      | _ :: before => exact ih (List.cons.inj h).2

/-- Settles O9: the body is the stuffed content. -/
theorem encoderSendsNoRawReservedByte : Obligations.EncoderSendsNoRawReservedByte := fun _ _ _ _ =>
  ⟨_, rfl, fun _ => not_raw_of_mem_escAll, fun _ _ => escAll_escape_followed⟩

/-- Settles O10: START is one byte, and stuffing makes one or two of each of the 4 + |p| bytes after it. -/
theorem encodedLengthLaw : Obligations.EncodedLengthLaw := by
  intro t n p c
  have hcontent : (frameContent t n p c).length = 4 + p.length := by simp [frameContent]; omega
  have hlen : (enc t n p c).length = 1 + (escAll (frameContent t n p c)).length := Nat.add_comm _ 1
  have hmin := length_le_escAll_length (frameContent t n p c)
  have hmax := escAll_length_le (frameContent t n p c)
  refine ⟨?_, by omega, fun cfg hfits => by omega⟩
  rw [hlen, escAll_length]
  rfl

/-! ### Escape removal inside a frame (R157, 42_decoder.md R175, R176) -/

/-- A data symbol neither leaves the frame's interior nor touches DEC_ESC. -/
theorem State.dataSymbol_inFrame {s : State} (hd : s.decSt ≠ .awaitStart) (b : Byte) :
    (s.dataSymbol b).decSt ≠ .awaitStart ∧ (s.dataSymbol b).decEsc = s.decEsc := by
  cases hs : s.decSt with
  | awaitStart => exact absurd hs hd
  | lenMsb | lenLsb | frameType => simp [State.dataSymbol, hs, State.lenMsb, State.lenLsb, State.frameType]
  | payload =>
    simp only [State.dataSymbol, hs, State.payloadByte, State.checksum]
    split_ifs <;> simp [State.overflow, State.dataByte, hs]

section
variable {s : State} (hs : s.rxStat = .pending) (hd : s.decSt ≠ .awaitStart) (he : s.decEsc = false)
include hs hd he

/-- The byte step on a stuffed byte is the data symbol of the byte itself. -/
theorem State.rxBytes_esc (b : Byte) : s.rxBytes (esc b) = s.dataSymbol b := by
  cases hb : reserved b with
  | true =>
    obtain ⟨hstart, -⟩ := reserved_eq_false_iff.1 (reserved_xor hb)
    have hpair := exec_escSymbol_inFrame hs he hd hstart
    rw [exec_escSymbol, State.rxEscaped_boundary he, xor_cancel_right] at hpair
    rw [esc_of_reserved hb]
    exact Host.Outcome.next.inj hpair
  | false =>
    obtain ⟨hstart, hesc, -⟩ := reserved_eq_false_iff.1 hb
    rw [esc_of_plain hb]
    exact Host.Outcome.next.inj (exec_wireData_inFrame hs he hd hstart hesc)

end

/-- A stuffed byte ends a frame with its last byte, if at all. -/
theorem pendingUntil_esc {s : State} (hs : s.rxStat = .pending) (he : s.decEsc = false) (b : Byte) :
    PendingUntil s (esc b) := by
  cases hb : reserved b with
  | true => rw [esc_of_reserved hb]; exact pendingUntil_pair hs he _
  | false => rw [esc_of_plain hb]; exact pendingUntil_one hs b

/-- The data symbol of b, unless the frame has ended (R172; log entry 15). -/
def State.takeByte (s : State) (b : Byte) : State := if s.rxStat = .pending then s.dataSymbol b else s

theorem foldl_takeByte_ended {s : State} (h : s.rxStat ≠ .pending) (bytes : List Byte) :
    bytes.foldl State.takeByte s = s := by
  induction bytes with
  | nil => rfl
  | cons b rest ih => rw [List.foldl_cons, State.takeByte, if_neg h, ih]

/-- Inside a frame the byte step on a stuffed sequence takes the bytes of the sequence, up to the end of the frame. -/
theorem State.rxBytes_escAll {s : State} (hs : s.rxStat = .pending) (hd : s.decSt ≠ .awaitStart) (he : s.decEsc = false)
    (bytes : List Byte) : s.rxBytes (escAll bytes) = bytes.foldl State.takeByte s := by
  induction bytes generalizing s with
  | nil => rfl
  | cons b rest ih =>
    obtain ⟨hd', he'⟩ := State.dataSymbol_inFrame hd b
    rw [escAll_cons, State.rxBytes_append, State.rxBytes_esc hs hd he, List.foldl_cons, State.takeByte, if_pos hs]
    by_cases hend : (s.dataSymbol b).rxStat = .pending
    · exact ih hend hd' (he'.trans he)
    · rw [State.rxBytes_ended hend, foldl_takeByte_ended hend]

/-- Settles O8: a reserved byte's pair is not reserved, and the sequence is taken byte by byte. -/
theorem escapeRemovalInvertsStuffing : Obligations.EscapeRemovalInvertsStuffing :=
  ⟨fun b hb => ⟨reserved_xor hb, xor_cancel_right b _⟩, fun _ => esc_of_plain,
    fun _ bytes hs hd he => State.rxBytes_escAll hs hd he bytes⟩

end Sys2Proof.Machine

/-! PROOF. ENCODE and FLUSH (41_encoder.md R150, R151, R155): the run of ENCODE's writes, and what a flush moves. -/

namespace Sys2Proof.Machine

/-! ### ENCODE (R150, R151) -/

/-- The checksum ENCODE sends: the stored one, or the computed one while TX_CSV = 0. -/
theorem State.ensureTxCsum_txCsum (s : State) :
    s.ensureTxCsum.txCsum = if s.txCsv then s.txCsum else chk s.txType s.txPayload := by
  unfold State.ensureTxCsum
  split <;> rfl

/-- Ensuring the checksum leaves the payload. -/
theorem State.ensureTxCsum_txPayload (s : State) : s.ensureTxCsum.txPayload = s.txPayload := by
  rw [State.ensureTxCsum_eq]
  rfl

/-- The wire bytes, field by field (R151). -/
theorem State.txWire_eq (s : State) :
    s.txWire = [0x7E] ++ esc (s.txLen.extractLsb' 8 8) ++ esc (s.txLen.extractLsb' 0 8) ++ esc s.txType ++
      s.txPayload.flatMap esc ++ esc s.txCsum := by
  simp [State.txWire, enc, frameContent, startByte, escAll]

/-- ENCODE's own step writes nothing yet (R150; log entry 14). -/
theorem exec_encode (s : State) :
    exec .encode s =
      .next { s.ensureTxCsum with port := .encoding s.ensureTxCsum.txWire s.ensureTxCsum.txWire.length } := rfl

/-- With only the block moving, ENCODE's writes append the bytes to SNK one a step, and the step after the last one responds
with their number (log entry 14). -/
theorem run_encoding {s : State} {todo : List Byte} {total : Nat} (hp : s.port = .encoding todo total) (h : OnlyBlock s) :
    run (todo.length + 1) s = .next (State.respond { s with snk := s.snk ++ todo } .ok (BitVec.ofNat 32 total)) := by
  have hstep (s : State) (todo : List Byte) (hp : s.port = .encoding todo total) (h : OnlyBlock s) :
      step s = .next (s.encodeTick todo total) :=
    (step_of_onlyBlock (State.resetDue_of_busy (by rw [hp]; rfl)) h).trans (blockStep_of_encoding hp)
  induction todo generalizing s with
  | nil => rw [run_succ _ (hstep s [] hp h), List.append_nil]; rfl
  | cons b rest ih =>
    calc run ((b :: rest).length + 1) s = run (rest.length + 1) (s.encodeTick (b :: rest) total) :=
          run_succ _ (hstep s _ hp h)
      _ = .next (State.respond { s with snk := s.snk ++ [b] ++ rest } .ok (BitVec.ofNat 32 total)) := ih rfl h
      _ = .next (State.respond { s with snk := s.snk ++ b :: rest } .ok (BitVec.ofNat 32 total)) := by
        rw [List.append_assoc, List.singleton_append]

/-- Settles O23: ENCODE's step ensures the checksum and puts the wire bytes on the port, and the run of the writes moves
them to SNK. -/
theorem encodeWritesTheFrame : Obligations.EncodeWritesTheFrame := by
  refine ⟨fun _ hop => decodeCmd_of_opField hop rfl, fun s honly _ => ?_⟩
  have honly' : OnlyBlock s.ensureTxCsum := by rw [State.ensureTxCsum_eq]; exact honly
  have hwire := s.ensureTxCsum.txWire_eq
  rw [State.ensureTxCsum_txPayload, State.ensureTxCsum_txCsum] at hwire
  refine ⟨_, _, s.ensureTxCsum.txWire, exec_encode s, ?_, run_encoding rfl honly', rfl, ?_, s.ensureTxCsum_txCsum, ?_⟩
  · rw [hwire, State.ensureTxCsum_eq]
  · rw [State.ensureTxCsum_eq]; rfl
  · rw [State.ensureTxCsum_eq]
    exact ⟨rfl, rfl, rfl, fun _ => rfl, SameRxSide.refl s, rfl, rfl, rfl, SameRest.refl s⟩

/-! ### FLUSH (R155) -/

theorem exec_flush (s : State) : exec .flush s = .next (s.sinkFlush.respond .ok 0) := rfl

/-- A flush keeps the bytes delivered and queued in their order, whatever the sink delivers at once (20_memory.md R63). -/
theorem State.sinkFlush_bytes (s : State) : s.sinkFlush.link ++ s.sinkFlush.snk = s.link ++ s.snk := by
  cases h : s.cfg.sinkFlushDelivers <;> simp [State.sinkFlush, h]

/-- With SINK_FLUSH_DELIVERS nothing is left queued (00_scope.md R7). -/
theorem State.sinkFlush_delivers {s : State} (h : s.cfg.sinkFlushDelivers = true) : s.sinkFlush.snk = [] := if_pos h

/-- Settles O24: the step is a flush and a response. -/
theorem flushAsksTheSink : Obligations.FlushAsksTheSink :=
  ⟨fun _ hop => decodeCmd_of_opField hop rfl, fun s => ⟨_, exec_flush s, rfl, rfl, s.sinkFlush_bytes, State.sinkFlush_delivers,
    exec_src (exec_flush s), exec_sameTx (exec_flush s) (by simp) (by simp) (by simp) (by simp) (by simp),
    exec_sameRxSide (exec_flush s) rfl (by simp), exec_sameRest (exec_flush s)⟩⟩

end Sys2Proof.Machine

/-! PROOF. A whole frame on the receive side (41_encoder.md R158, 42_decoder.md R172 to R184): the symbols of an encoded frame
one by one, the frame Pending before each, and DECODE's run over them. -/

namespace Sys2Proof.Machine

/-! ### Taking bytes with the frame Pending up to the last one -/

/-- The byte step on these bytes goes from `s` to `u`, and the frame is Pending before the last of them. -/
structure Takes (s : State) (bytes : List Byte) (u : State) : Prop where
  result : s.rxBytes bytes = u
  pending : PendingUntil s bytes

theorem Takes.nil (s : State) : Takes s [] s := ⟨rfl, pendingUntil_nil s⟩

theorem Takes.append {s t u : State} {xs ys : List Byte} (hx : Takes s xs t) (hy : Takes t ys u) :
    Takes s (xs ++ ys) u := by
  obtain ⟨rfl, hxs⟩ := hx
  exact ⟨(State.rxBytes_append s xs ys).trans hy.result, pendingUntil_append hxs hy.pending⟩

/-- What is left after the first of the bytes. -/
theorem Takes.rest {s u : State} {xs ys : List Byte} (h : Takes s (xs ++ ys) u) : Takes (s.rxBytes xs) ys u := by
  refine ⟨(State.rxBytes_append s xs ys).symm.trans h.result, fun before after hsplit hne => ?_⟩
  rw [← State.rxBytes_append]
  exact h.pending (xs ++ before) after (by rw [hsplit, List.append_assoc]) hne

/-- The bytes waiting in SRC do not matter (R187). -/
theorem Takes.with_src {s u : State} {bytes : List Byte} (h : Takes s bytes u) (l : List Byte) :
    Takes { s with src := l } bytes { u with src := l } := by
  refine ⟨by rw [State.rxBytes_src, h.result], fun before after hsplit hne => ?_⟩
  rw [State.rxBytes_src]
  exact h.pending before after hsplit hne

/-- Bytes that end the frame begin with those of any round of symbols that finds it Pending. -/
theorem Takes.begins_with {s u : State} {bytes rest used left : List Byte} (h : Takes s bytes u)
    (hend : u.rxStat ≠ .pending) (hsplit : used ++ left = bytes ++ rest) (hused : PendingUntil s used) :
    ∃ more, bytes = used ++ more ∧ left = more ++ rest := by
  obtain ⟨more, hmore, hleft⟩ | ⟨beyond, hbeyond, -⟩ := List.append_eq_append_iff.1 hsplit
  · exact ⟨more, hmore, hleft⟩
  · obtain rfl : beyond = [] := by
      by_contra hne
      exact hend (h.result ▸ hused bytes beyond hbeyond hne)
    rw [List.append_nil] at hbeyond
    subst hbeyond
    exact ⟨[], (List.append_nil _).symm, List.append_cancel_left hsplit⟩

theorem Takes.cfg_eq {s u : State} {bytes : List Byte} (h : Takes s bytes u) : u.cfg = s.cfg := by
  obtain ⟨hcfg, -⟩ := (s.rxBytes_onlyRxSide bytes).fields
  exact h.result ▸ hcfg

/-- START begins a frame (R173). -/
theorem takes_start {s : State} (hs : s.rxStat = .pending) (hd : s.decSt = .awaitStart) :
    Takes s [startByte] { s with decSt := .lenMsb } :=
  ⟨State.rxByte_hunting hs hd startByte, pendingUntil_one hs _⟩

section
variable {s : State} (hs : s.rxStat = .pending)
include hs

/-- Inside a frame a stuffed byte is the data symbol of the byte (R175, R176). -/
theorem takes_esc (hd : s.decSt ≠ .awaitStart) (he : s.decEsc = false) (b : Byte) : Takes s (esc b) (s.dataSymbol b) :=
  ⟨State.rxBytes_esc hs hd he b, pendingUntil_esc hs he b⟩

theorem takes_lenMsb (hd : s.decSt = .lenMsb) (he : s.decEsc = false) (b : Byte) : Takes s (esc b) (s.lenMsb b) := by
  simpa only [State.dataSymbol, hd] using takes_esc hs (by simp [hd]) he b

theorem takes_lenLsb (hd : s.decSt = .lenLsb) (he : s.decEsc = false) (b : Byte) : Takes s (esc b) (s.lenLsb b) := by
  simpa only [State.dataSymbol, hd] using takes_esc hs (by simp [hd]) he b

theorem takes_frameType (hd : s.decSt = .frameType) (he : s.decEsc = false) (b : Byte) :
    Takes s (esc b) (s.frameType b) := by
  simpa only [State.dataSymbol, hd] using takes_esc hs (by simp [hd]) he b

theorem takes_payloadByte (hd : s.decSt = .payload) (he : s.decEsc = false) (b : Byte) :
    Takes s (esc b) (s.payloadByte b) := by
  simpa only [State.dataSymbol, hd] using takes_esc hs (by simp [hd]) he b

end

/-! ### A frame being received -/

/-- In PAYLOAD of a Pending frame of type `t` and length `n`, the payload bytes `p` having arrived (R179, R182). -/
structure Receiving (s : State) (t : Byte) (n : Half) (p : List Byte) : Prop where
  stat : s.rxStat = .pending
  decSt : s.decSt = .payload
  decEsc : s.decEsc = false
  type : s.rxType = t
  len : s.rxLen = n
  acc : s.decAcc = sum8 t p
  cnt : s.decCnt.toNat = p.length
  payload : s.rxPayload = p

/-- The two length bytes, received one after the other, make the length (R177, R178). -/
theorem length_of_bytes (n : Half) (low : Byte) :
    (n.extractLsb' 8 8 ++ low : Half).extractLsb' 8 8 ++ n.extractLsb' 0 8 = n := by
  have hhigh : (n.extractLsb' 8 8 ++ low : Half).extractLsb' 8 8 = n.extractLsb' 8 8 := BitVec.extractLsb'_append_eq_left
  rw [hhigh]
  exact BitVec.extractLsb'_append_extractLsb'

/-- Hunting, the decoder has no escape pending and nothing summed (R171, R173). -/
theorem RxInv.hunting (h : RxInv s) (hd : s.decSt = .awaitStart) : s.decEsc = false ∧ s.decAcc = 0x00 := by
  obtain ⟨-, -, hacc, -⟩ := h.beforeType (by simp [hd])
  obtain ⟨-, -, h⟩ := h
  rw [hd] at h
  obtain ⟨-, -, he, -⟩ := h
  exact ⟨he, hacc⟩

/-- The wire bytes before the payload: START, then the stuffed length and type (41_encoder.md R151). -/
def frameHead (t : Byte) (n : Half) : List Byte := startByte :: escAll [n.extractLsb' 8 8, n.extractLsb' 0 8, t]

theorem frameHead_eq (t : Byte) (n : Half) :
    frameHead t n = [startByte] ++ esc (n.extractLsb' 8 8) ++ esc (n.extractLsb' 0 8) ++ esc t := by
  simp [frameHead]

/-- The payload follows the head, and stuffing is byte by byte. -/
theorem frameHead_append (t : Byte) (n : Half) (p : List Byte) :
    startByte :: escAll ([n.extractLsb' 8 8, n.extractLsb' 0 8, t] ++ p) = frameHead t n ++ escAll p := by
  simp [frameHead]

theorem enc_eq (t : Byte) (n : Half) (p : List Byte) (c : Byte) : enc t n p c = frameHead t n ++ escAll p ++ esc c := by
  simp [enc, frameContent, frameHead]

/-- From the hunt, START, the length and the type lead to the payload (R173, R177 to R179). -/
theorem takes_frameHead {s : State} (h : RxInv s) (hs : s.rxStat = .pending) (hd : s.decSt = .awaitStart) (t : Byte)
    (n : Half) : ∃ u, Takes s (frameHead t n) u ∧ Receiving u t n [] := by
  obtain ⟨he, hacc⟩ := h.hunting hd
  have hstart := takes_start hs hd
  have hmsb := takes_lenMsb (s := { s with decSt := .lenMsb }) hs rfl he (n.extractLsb' 8 8)
  have hlsb := takes_lenLsb (s := State.lenMsb { s with decSt := .lenMsb } (n.extractLsb' 8 8)) hs rfl he
    (n.extractLsb' 0 8)
  have htype := takes_frameType
    (s := State.lenLsb (State.lenMsb { s with decSt := .lenMsb } (n.extractLsb' 8 8)) (n.extractLsb' 0 8)) hs rfl he t
  have hsum : s.decAcc + t = sum8 t [] := by rw [hacc]; exact zero_add t
  rw [frameHead_eq]
  exact ⟨_, ((hstart.append hmsb).append hlsb).append htype, hs, rfl, he, rfl, length_of_bytes n _, hsum, rfl, rfl⟩

section
variable {s : State} {t : Byte} {n : Half} {p : List Byte}

/-- In PAYLOAD a stuffed byte goes to the rule that R180 chooses. -/
theorem Receiving.takes_esc (h : Receiving s t n p) (b : Byte) : Takes s (esc b) (s.payloadByte b) :=
  takes_payloadByte h.stat h.decSt h.decEsc b

theorem Receiving.decCnt_eq_plen_iff (h : Receiving s t n p) : s.decCnt = plen s.rxLen ↔ p.length = (plen n).toNat := by
  rw [← h.cnt, h.len, BitVec.toNat_inj]

/-- A payload byte that fits is stored, summed and counted (R182). -/
theorem Receiving.dataByte (h : Receiving s t n p) (hroom : p.length < s.cfg.rxCap) (b : Byte) :
    Receiving (s.dataByte b) t n (p ++ [b]) where
  stat := h.stat
  decSt := h.decSt
  decEsc := h.decEsc
  type := h.type
  len := h.len
  acc := by rw [sum8_append_one, ← h.acc]; rfl
  cnt := by
    rw [List.length_append, List.length_singleton, ← h.cnt]
    exact toNat_succ_of_lt_rxCap (h.cnt ▸ hroom)
  payload := by rw [State.rxPayload_dataByte (h.cnt ▸ hroom), h.payload]

/-- A stuffed payload goes into RXB byte by byte, while it fits both the announced length and RX_CAP. -/
theorem Receiving.takes_escAll (h : Receiving s t n p) {q : List Byte} (hlen : (p ++ q).length ≤ (plen n).toNat)
    (hroom : (p ++ q).length ≤ s.cfg.rxCap) : ∃ u, Takes s (escAll q) u ∧ Receiving u t n (p ++ q) := by
  induction q generalizing s p with
  | nil => exact ⟨s, .nil s, by rwa [List.append_nil]⟩
  | cons b q ih =>
    rw [List.append_cons] at hlen hroom ⊢
    have hfits : p.length < (plen n).toNat ∧ p.length < s.cfg.rxCap := by
      simp only [List.length_append, List.length_singleton] at hlen hroom
      omega
    have hstore : s.payloadByte b = s.dataByte b := by
      rw [State.payloadByte, if_neg (mt h.decCnt_eq_plen_iff.1 hfits.1.ne), if_neg (h.cnt ▸ hfits.2.ne)]
    have hbyte : Takes s (esc b) (s.dataByte b) := hstore ▸ h.takes_esc b
    obtain ⟨u, hrest, hu⟩ := ih (h.dataByte hfits.2 b) hlen hroom
    exact ⟨u, hbyte.append hrest, hu⟩

/-- The byte after the whole payload is the checksum, and the right one makes the frame Ready (R184). -/
theorem Receiving.takes_checksum (h : Receiving s t n p) (hall : p.length = (plen n).toNat) :
    Takes s (esc (chk t p))
      { s with rxCsum := chk t p, decAcc := s.decAcc + chk t p, rxStat := .ready, rxErr := .noError } := by
  have hpass : s.decAcc + chk t p = 0xFF := h.acc ▸ chk_eq_iff.1 rfl
  have hsum : s.payloadByte (chk t p) = _ :=
    (if_pos (h.decCnt_eq_plen_iff.2 hall)).trans (if_pos hpass)
  exact hsum ▸ h.takes_esc _

/-- A payload byte beyond RX_CAP ends the frame (R183). -/
theorem Receiving.takes_overflow (h : Receiving s t n p) (hmore : p.length < (plen n).toNat)
    (hfull : p.length = s.cfg.rxCap) (b : Byte) : Takes s (esc b) s.overflow := by
  have hover : s.payloadByte b = s.overflow := by
    rw [State.payloadByte, if_neg (mt h.decCnt_eq_plen_iff.1 hmore.ne), if_pos (h.cnt.trans hfull)]
  exact hover ▸ h.takes_esc b

end

/-! ### DECODE's run over them (R170, R186) -/

/-- DECODE reads bytes that end the frame with their last one, and no others, and responds with STATUS. -/
theorem run_decoding {s u : State} {bytes rest : List Byte} (hp : s.port = .decoding) (h : OnlyBlock s)
    (hsrc : s.src = bytes ++ rest) (htakes : Takes s bytes u) (hend : u.rxStat ≠ .pending) :
    ∃ k, run k s = .next (State.decodeEnd { u with src := rest }) := by
  have hstep : step s = blockStep s := step_of_onlyBlock (State.resetDue_of_busy (by rw [hp]; rfl)) h
  by_cases hne : bytes = []
  case pos =>
    subst hne
    obtain rfl : s = u := htakes.result
    have hrest : { s with src := rest } = s := by rw [← List.nil_append rest, ← hsrc]
    rw [hrest]
    exact ⟨1, run_succ 0 (hstep.trans (blockStep_decodeEnd hp (.inl hend)))⟩
  have hs : s.rxStat = .pending := htakes.pending [] bytes rfl hne
  obtain ⟨used, left, hsplit, hused, hround, hpending⟩ := blockStep_decoding hp hs (by simp [hsrc, hne])
  obtain ⟨more, hbytes, rfl⟩ := htakes.begins_with hend (hsplit.symm.trans hsrc) hpending
  have hshorter : more.length < bytes.length := by
    have hpos := List.length_pos_of_ne_nil hused
    rw [hbytes, List.length_append]
    omega
  obtain ⟨-, -, -, -, -, -, -, hport, -, -, -, -, -, hsched, hlater⟩ := (s.rxBytes_onlyRxSide used).fields
  rw [hbytes] at htakes
  obtain ⟨k, hrun⟩ := run_decoding (s := { s.rxBytes used with src := more ++ rest }) (hport.trans hp)
    ⟨hsched.trans h.1, hlater.trans h.2⟩ rfl (htakes.rest.with_src _) hend
  exact ⟨k + 1, (run_succ k (hstep.trans hround)).trans hrun⟩
termination_by bytes.length
decreasing_by exact hshorter

/-! ### Whole frames (41_encoder.md R158) -/

/-- The bytes of a whole frame that fits RX_CAP make a hunting receiver Ready with that frame. -/
theorem takes_frame {s : State} (h : RxInv s) (hs : s.rxStat = .pending) (hd : s.decSt = .awaitStart) (t : Byte)
    {n : Half} {p : List Byte} (hlen : p.length = (plen n).toNat) (hcap : p.length ≤ s.cfg.rxCap) :
    ∃ u, Takes s (enc t n p (chk t p)) u ∧ u.rxStat = .ready ∧ u.rxErr = .noError ∧ u.rxType = t ∧ u.rxLen = n ∧
      u.rxPayload = p ∧ u.rxCsum = chk t p ∧ u.decCnt = plen n := by
  obtain ⟨v, hhead, hv⟩ := takes_frameHead h hs hd t n
  obtain ⟨w, hpayload, hw⟩ := hv.takes_escAll (q := p) hlen.le (hhead.cfg_eq ▸ hcap)
  rw [List.nil_append] at hw
  have hcnt : w.decCnt = plen n := hw.len ▸ hw.decCnt_eq_plen_iff.2 hlen
  rw [enc_eq]
  exact ⟨_, (hhead.append hpayload).append (hw.takes_checksum hlen), rfl, rfl, hw.type, hw.len, hw.payload, rfl, hcnt⟩

/-- Settles O55: the receiver takes the frame, and DECODE reads exactly its bytes, since none but the last one ends it. -/
theorem roundTripGivesTheFrameBack : Obligations.RoundTripGivesTheFrameBack := by
  intro s r rest hcsum hcap hinv hs hd hp honly _ hsrc
  have hlen : s.txPayload.length = (plen s.txLen).toNat := by simp [State.txPayload]
  obtain ⟨u, htakes, hready, herr, htype, hrxLen, hpayload, hrxCsum, hcnt⟩ :=
    takes_frame hinv hs hd s.txType hlen (hlen ▸ hcap)
  rw [State.txWire, hcsum] at hsrc
  obtain ⟨k, hrun⟩ := run_decoding hp honly hsrc htakes (by simp [hready])
  exact ⟨k, _, hrun, rfl, rfl, hready, herr, htype, hrxLen, hpayload, hrxCsum.trans hcsum.symm, hcnt⟩

/-- One payload byte more than RX_CAP: the first RX_CAP bytes are received, and the one after them overflows (R183). -/
theorem takes_oversize {s : State} (h : RxInv s) (hs : s.rxStat = .pending) (hd : s.decSt = .awaitStart) (t : Byte)
    {n : Half} {p : List Byte} (hcap : p.length = s.cfg.rxCap) (hlong : p.length < (plen n).toNat) (b : Byte) :
    ∃ u, Takes s (frameHead t n ++ escAll (p ++ [b])) u.overflow ∧ Receiving u t n p := by
  obtain ⟨v, hhead, hv⟩ := takes_frameHead h hs hd t n
  obtain ⟨u, hpayload, hu⟩ := hv.takes_escAll (q := p) hlong.le (hhead.cfg_eq ▸ hcap.le)
  rw [List.nil_append] at hu
  have hfull : p.length = u.cfg.rxCap := by rw [hpayload.cfg_eq, hhead.cfg_eq, hcap]
  have hover := hu.takes_overflow hlong hfull b
  rw [escAll_append, escAll_cons, escAll_nil, List.append_nil, ← List.append_assoc]
  exact ⟨u, (hhead.append hpayload).append hover, hu⟩

/-- Settles O56: the first RX_CAP payload bytes are stored, and the next one overflows, before which the frame is Pending. -/
theorem oversizeFrameOverflows : Obligations.OversizeFrameOverflows := by
  intro r t c n p hlen hlong hinv hs hd
  dsimp only
  have hcap : (p.take r.cfg.rxCap).length = r.cfg.rxCap := List.length_take_of_le hlong.le
  have hmore : p.take (r.cfg.rxCap + 1) = p.take r.cfg.rxCap ++ [p[r.cfg.rxCap]] := List.take_succ_eq_append_getElem hlong
  obtain ⟨u, htakes, hu⟩ := takes_oversize hinv hs hd t (n := n) hcap (by omega) p[r.cfg.rxCap]
  have henc : enc t n p c =
      frameHead t n ++ escAll (p.take (r.cfg.rxCap + 1)) ++ (escAll (p.drop (r.cfg.rxCap + 1)) ++ esc c) := by
    rw [enc_eq, ← List.append_assoc, List.append_assoc (frameHead t n) _ (escAll _), ← escAll_append,
      List.take_append_drop]
  rw [← hmore] at htakes
  rw [frameHead_append, htakes.result]
  refine ⟨rfl, rfl, hu.len, hu.type, hu.cnt.trans hcap, hu.payload, htakes.pending, ⟨_, henc⟩, ?_⟩
  rw [henc, State.rxBytes_append, htakes.result]
  exact State.rxBytes_ended (by simp [State.overflow]) _

end Sys2Proof.Machine

/-! PROOF. The byte step and the WIRE symbols state by state (42_decoder.md R172 to R184): which data symbol a byte is, and what
each state's rule writes and leaves. -/

namespace Sys2Proof.Machine

/-! ### Outside the receive side -/

/-- A change of the receive side alone leaves the TX frame, the surroundings and the port. -/
theorem OnlyRxSide.outside {s t : State} (h : OnlyRxSide s t) : SameTx s t ∧ SameAround s t ∧ t.port = s.port := by
  obtain ⟨-, -, -, -, -, -, -, hport, -⟩ := h.fields
  exact ⟨h.sameTx, ⟨h.sameLink, h.sameRest⟩, hport⟩

/-! ### START (R173, R174) -/

theorem exec_wireStart (s : State) : exec .wireStart s = .next (s.rxByte startByte) := rfl

/-- A raw START while hunting changes DEC_ST alone. -/
theorem State.rxByte_frameStart {s : State} (hs : s.rxStat = .pending) (hd : s.decSt = .awaitStart) :
    s.rxByte startByte = { s with decSt := .lenMsb } := (takes_start hs hd).result

/-- Settles O30: hunting, START moves DEC_ST on; inside a frame it is the terminating step. -/
theorem wireStartBeginsOrAborts : Obligations.WireStartBeginsOrAborts := by
  refine fun s hs => ⟨fun hd => ⟨_, exec_wireStart s, ?_⟩, fun hd => ⟨_, exec_wireStart s, ?_⟩⟩
  · obtain ⟨hrx, -⟩ := SameRxSide.refl s
    obtain ⟨htx, haround, hport⟩ := (s.rxByte_onlyRxSide startByte).outside
    rw [State.rxByte_frameStart hs hd] at htx haround hport ⊢
    exact ⟨rfl, rfl, rfl, rfl, hrx, htx, haround, hport⟩
  · obtain ⟨-, hdec⟩ := SameRxSide.refl s
    obtain ⟨htx, haround, hport⟩ := (s.rxByte_onlyRxSide startByte).outside
    rw [State.rxByte_start hs hd] at htx haround hport ⊢
    exact ⟨rfl, rfl, rfl, rfl, rfl, fun _ => rfl, hdec, htx, haround, hport⟩

/-! ### Raw bytes and symbols inside a frame (R175, R176) -/

section
variable {s : State} (hs : s.rxStat = .pending) (hd : s.decSt ≠ .awaitStart)
include hs hd

/-- With an escape pending any raw byte but START is the data symbol of the byte ^ 20. -/
theorem State.rxByte_afterEscape (he : s.decEsc = true) {x : Byte} (hx : x ≠ startByte) :
    s.rxByte x = State.dataSymbol { s with decEsc := false } (x ^^^ 0x20) := by
  rw [State.rxByte_data hs hd hx (.inl he), State.unescape, if_pos he]

/-- With no escape pending any raw byte but START and the escape byte is its own data symbol. -/
theorem State.rxByte_plain (he : s.decEsc = false) {x : Byte} (hstart : x ≠ startByte) (hesc : x ≠ escByte) :
    s.rxByte x = s.dataSymbol x := Host.Outcome.next.inj (exec_wireData_inFrame hs he hd hstart hesc)

/-- The symbol the encoder sends for a byte is the data symbol of that byte (30_encoding.md R85). -/
theorem exec_symbolOf (he : s.decEsc = false) (b : Byte) : exec (symbolOf b) s = .next (s.dataSymbol b) := by
  have hpair (x : Byte) (hx : x ≠ startByte) := exec_escSymbol_inFrame hs he hd hx
  unfold symbolOf
  split_ifs with h7E h7D h11 h13
  · subst h7E; exact hpair 0x5E (by decide)
  · subst h7D; exact hpair 0x5D (by decide)
  · subst h11; exact hpair 0x31 (by decide)
  · subst h13; exact hpair 0x33 (by decide)
  · exact exec_wireData_inFrame hs he hd h7E h7D

end

/-- Settles O32: the byte after an escape is taken ^ 20, and any other data byte as it is. -/
theorem pendingEscapeTakesTheNextByte : Obligations.PendingEscapeTakesTheNextByte := by
  refine fun s x hs hd hx => ⟨fun he => ?_, fun he hesc => ?_⟩
  · have hbyte := State.rxByte_afterEscape hs hd he hx
    exact ⟨hbyte, by rw [exec_escSymbol, State.rxEscaped_pending he, hbyte]⟩
  · exact ⟨State.rxByte_plain hs hd he hx hesc, exec_wireData_inFrame hs he hd hx hesc⟩

/-- An escape byte with no data byte after it in SRC is no symbol yet (30_encoding.md R86). -/
theorem decodeWire_loneEscape {rest : List Byte} (h : rest = [] ∨ ∃ rest', rest = 0x7E :: rest') :
    decodeWire false (escByte :: rest) = .reject .escapeWithoutData := by
  obtain rfl | ⟨rest', rfl⟩ := h <;> rfl

/-- Where no symbol can be read, a round of DECODE's loop gives the byte at SRC's head alone to the byte step (log entry 2). -/
theorem blockStep_of_noSymbol {s : State} {r : Byte} {rest : List Byte} {why : Reject} (hp : s.port = .decoding)
    (hs : s.rxStat = .pending) (hsrc : s.src = r :: rest) (hd : decodeWire s.decEsc (r :: rest) = .reject why) :
    blockStep s = .next (State.rxByte { s with src := rest } r) := by
  simp [blockStep, State.fetch, hp, State.fetchSymbol, hs, hsrc, hd]

/-- Settles O37: the byte step sets DEC_ESC, and a lone escape byte is no symbol, so the block's turn takes it in by itself. -/
theorem escapeByteSetsDecEsc : Obligations.EscapeByteSetsDecEsc := by
  refine ⟨fun s => State.rxByte_escape, fun s u rest hp hu hs hd he hsrc hrest => ?_⟩
  have hstep : step s = blockStep u := step_of_move (State.resetDue_of_busy (by rw [hp]; rfl)) hu
  rw [hstep, State.eq_of_nextMove hu]
  have hround := blockStep_of_noSymbol (s := { s with sched := u.sched, later := u.later }) hp hs hsrc
    (he ▸ decodeWire_loneEscape hrest)
  rw [hround]
  exact congrArg _ (State.rxByte_escape (s := { s with src := rest, sched := u.sched, later := u.later }) hs hd he)

/-! ### Length and type (R177 to R179) -/

/-- Settles O34: the symbol gives its byte to the rule of the header state. -/
theorem headerBytesFillLengthAndType : Obligations.HeaderBytesFillLengthAndType := by
  intro s b hs he
  have hsymbol (hd : s.decSt ≠ .awaitStart) := exec_symbolOf hs hd he b
  refine ⟨fun hd => ?_, fun hd => ?_, fun hd => ?_⟩
  · rw [hsymbol (by simp [hd]), State.dataSymbol, hd]; rfl
  · rw [hsymbol (by simp [hd]), State.dataSymbol, hd]; rfl
  · rw [hsymbol (by simp [hd]), State.dataSymbol, hd]; rfl

/-! ### Payload and checksum (R180 to R184) -/

/-- The checksum step stores and sums the byte, and the sum decides the status (R184). -/
theorem State.checksum_eq (s : State) (b : Byte) :
    s.checksum b = { s with
      rxCsum := b, decAcc := s.decAcc + b
      rxStat := if s.decAcc + b = 0xFF then .ready else .errored
      rxErr := if s.decAcc + b = 0xFF then .noError else .checksumFailure } := by
  unfold State.checksum
  split <;> rfl

theorem State.checksum_onlyRxSide (s : State) (b : Byte) : OnlyRxSide s (s.checksum b) := by
  rw [State.checksum_eq]
  rfl

/-- The bytes of RXB after the payload step: the new one at DEC_CNT, and the others as before (R182). -/
theorem State.rxbAt_dataByte_same (s : State) (b : Byte) : (s.dataByte b).rxbAt s.decCnt.toNat = b := by
  simp [State.rxbAt, State.dataByte]

theorem State.rxbAt_dataByte_other (s : State) (b : Byte) {i : Nat} (h : i ≠ s.decCnt.toNat) :
    (s.dataByte b).rxbAt i = s.rxbAt i := by
  simp [State.rxbAt, State.rxbUnlisted, State.dataByte, Memory.read_write_other _ _ h]

section
variable {s : State} (hs : s.rxStat = .pending) (he : s.decEsc = false) (hd : s.decSt = .payload)
include hs he hd

/-- In PAYLOAD a symbol gives its byte to the rule of R180. -/
theorem exec_symbolOf_payload (b : Byte) : exec (symbolOf b) s = .next (s.payloadByte b) := by
  rw [exec_symbolOf hs (by simp [hd]) he, State.dataSymbol, hd]

theorem exec_symbolOf_checksum (hall : s.decCnt = plen s.rxLen) (b : Byte) :
    exec (symbolOf b) s = .next (s.checksum b) := by
  rw [exec_symbolOf_payload hs he hd, State.payloadByte, if_pos hall]

theorem exec_symbolOf_dataByte (hmore : s.decCnt ≠ plen s.rxLen) (hroom : s.decCnt.toNat ≠ s.cfg.rxCap) (b : Byte) :
    exec (symbolOf b) s = .next (s.dataByte b) := by
  rw [exec_symbolOf_payload hs he hd, State.payloadByte, if_neg hmore, if_neg hroom]

theorem exec_symbolOf_overflow (hmore : s.decCnt ≠ plen s.rxLen) (hfull : s.decCnt.toNat = s.cfg.rxCap) (b : Byte) :
    exec (symbolOf b) s = .next s.overflow := by
  rw [exec_symbolOf_payload hs he hd, State.payloadByte, if_neg hmore, if_pos hfull]

end

/-- Settles O35: R180's two tests choose among the checksum, the overflow and the payload step. -/
theorem payloadBytesAreStoredOrOverflow : Obligations.PayloadBytesAreStoredOrOverflow := by
  refine fun s b hs he hd => ⟨fun hall => exec_symbolOf_checksum hs he hd hall b,
    fun hmore hroom => ⟨_, exec_symbolOf_dataByte hs he hd hmore hroom b, ?_⟩,
    fun hmore hfull => ⟨_, exec_symbolOf_overflow hs he hd hmore hfull b, ?_⟩⟩
  · have honly : OnlyRxSide s (s.dataByte b) := rfl
    exact ⟨s.rxbAt_dataByte_same b, fun _ => s.rxbAt_dataByte_other b, rfl, rfl, rfl, he, hs, rfl, rfl, rfl, rfl,
      honly.outside⟩
  · have honly : OnlyRxSide s s.overflow := rfl
    exact ⟨rfl, rfl, rfl, rfl, rfl, fun _ => rfl, (SameRxSide.refl s).2, honly.outside⟩

/-- Settles O36: the checksum step, and that the sum is FF for one byte alone, the checksum of what was summed before. -/
theorem checksumByteEndsTheFrame : Obligations.ChecksumByteEndsTheFrame := by
  intro s b hs he hd hall
  have houtside := (s.checksum_onlyRxSide b).outside
  refine ⟨_, exec_symbolOf_checksum hs he hd hall b, ?_⟩
  rw [State.checksum_eq] at houtside ⊢
  refine ⟨rfl, rfl, fun hpass => ⟨if_pos hpass, if_pos hpass⟩, fun hfail => ⟨if_neg hfail, if_neg hfail⟩,
    fun hinv => ?_, rfl, rfl, he, rfl, rfl, fun _ => rfl, houtside⟩
  obtain ⟨-, -, hsum⟩ := hinv.payload hs hd
  refine ⟨hsum, ?_⟩
  rw [eq_comm (a := b), chk_eq_iff, ← hsum]
  simp

end Sys2Proof.Machine

/-! PROOF. DECODE's entry and its runs (42_decoder.md R170, R171, R186, R187): what the loop has read at any time, whoever moves,
and that the bytes it reads to the end are determined. -/

namespace Sys2Proof.Machine

/-! ### The entry (R170, R171) -/

/-- The registers at DECODE's entry: those of Clear where the frame has ended. -/
def State.decodeEntry (s : State) : State := if s.rxStat = .pending then s else s.clear

theorem exec_decode (s : State) : exec .decode s = .next { s.decodeEntry with port := .decoding } := rfl

theorem State.decodeEntry_pending {s : State} (h : s.rxStat = .pending) : s.decodeEntry = s := if_pos h

theorem State.decodeEntry_ended {s : State} (h : s.rxStat ≠ .pending) : s.decodeEntry = s.clear := if_neg h

theorem State.decodeEntry_onlyRxSide (s : State) : OnlyRxSide s s.decodeEntry := by
  unfold State.decodeEntry
  split <;> rfl

theorem decodeCmd_decode {w : Word} (h : opField w = 0x10) : decodeCmd w = .instr .decode := decodeCmd_of_opField h rfl

/-- Settles O25: the entry is Clear exactly when the frame has ended. -/
theorem decodeClearsOnlyATerminalFrame : Obligations.DecodeClearsOnlyATerminalFrame := by
  refine ⟨fun _ => decodeCmd_decode, fun s => ⟨_, exec_decode s, rfl, ?_⟩⟩
  obtain ⟨htx, haround, -⟩ := s.decodeEntry_onlyRxSide.outside
  by_cases hs : s.rxStat = .pending
  · rw [State.decodeEntry_pending hs] at htx haround ⊢
    exact ⟨fun _ => SameRxSide.refl s, fun hne => absurd hs hne, fun _ => rfl, htx, haround⟩
  · rw [State.decodeEntry_ended hs] at htx haround ⊢
    exact ⟨fun hp => absurd hp hs, fun _ => ⟨rfl, rfl, rfl, rfl, rfl, rfl, rfl, rfl, rfl⟩, fun _ => rfl, htx, haround⟩

/-! ### What DECODE has read -/

/-- The port, the waiting bytes and the schedule do not matter to the byte step (R187). -/
theorem State.rxBytes_outside (s : State) (p : Port) (l : List Byte) (es : List Event) (bytes : List Byte) :
    State.rxBytes { s with port := p, src := l, sched := es } bytes =
      { s.rxBytes bytes with port := p, src := l, sched := es } := by
  have h := State.rxBytes_around s p s.resetPending l s.snk s.link s.flushCalls es s.later bytes
  obtain ⟨-, -, -, -, -, -, -, -, hlatch, -, hsnk, hlink, hcalls, -, hlater⟩ := (State.rxBytes_onlyRxSide s bytes).fields
  unfold State.around at h
  rw [h, ← hlatch, ← hsnk, ← hlink, ← hcalls, ← hlater]

/-- DECODE's loop has nothing more to read (R170). -/
def Stopped (t : State) : Prop := t.rxStat ≠ .pending ∨ t.src = []

/-- From `s` to `t`, DECODE has given `read`, the beginning of `bytes`, to the byte step, and the others wait in SRC; the frame
was Pending before the last byte read. -/
structure Reads (s : State) (bytes read : List Byte) (t : State) : Prop where
  split : bytes = read ++ t.src
  regs : t = { s.rxBytes read with src := t.src, port := t.port, sched := t.sched }
  pending : PendingUntil s read

namespace Reads

variable {s t u : State} {bytes read more again : List Byte}

/-- Where only the port, SRC and the schedule differ, nothing was read. -/
theorem nothing (hsrc : bytes = t.src) (h : t = { s with src := t.src, port := t.port, sched := t.sched }) :
    Reads s bytes [] t := ⟨hsrc, h, pendingUntil_nil s⟩

/-- The port, the waiting bytes and the schedule at the start do not matter (R187). -/
theorem of_outside {p : Port} {l : List Byte} {es : List Event}
    (h : Reads { s with port := p, src := l, sched := es } bytes read t) : Reads s bytes read t where
  split := h.split
  regs := by
    have hregs := h.regs
    rwa [State.rxBytes_outside] at hregs
  pending := fun before after hsplit hne => by
    have hp := h.pending before after hsplit hne
    rwa [State.rxBytes_outside] at hp

/-- Further bytes go on from those read. -/
theorem rxBytes_eq (h : Reads s bytes read t) (bs : List Byte) :
    t.rxBytes bs = { s.rxBytes (read ++ bs) with src := t.src, port := t.port, sched := t.sched } := by
  rw [h.regs, State.rxBytes_outside, State.rxBytes_append]

theorem rxStat_eq (h : Reads s bytes read t) : t.rxStat = (s.rxBytes read).rxStat := by
  rw [h.regs]

theorem status_eq (h : Reads s bytes read t) : t.status = (s.rxBytes read).status := by
  rw [h.regs]
  rfl

theorem kept (h : Reads s bytes read t) : t.resetPending = s.resetPending ∧ t.later = s.later := by
  obtain ⟨-, -, -, -, -, -, -, -, hlatch, -, -, -, -, -, hlater⟩ := (s.rxBytes_onlyRxSide read).fields
  rw [h.regs]
  exact ⟨hlatch, hlater⟩

/-- Two readings in a row, more bytes having arrived. -/
theorem trans (h : Reads s bytes read t) (h' : Reads t (t.src ++ more) again u) :
    Reads s (bytes ++ more) (read ++ again) u where
  split := by rw [h.split, List.append_assoc, h'.split, List.append_assoc]
  regs := by
    have hregs := h'.regs
    rwa [h.rxBytes_eq] at hregs
  pending := by
    refine pendingUntil_append h.pending fun before after hsplit hne => ?_
    have hp := h'.pending before after hsplit hne
    rwa [h.rxBytes_eq, State.rxBytes_append] at hp

/-- Of two readings of the same bytes, the one that went as far as DECODE reads is no proper beginning of the other. -/
theorem more_eq_nil (h : Reads s bytes read t) (hstop : Stopped t) (h' : Reads s bytes (read ++ more) u) :
    more = [] := by
  by_contra hne
  have hp : t.rxStat = .pending := h.rxStat_eq.trans (h'.pending read more rfl hne)
  have hsrc : t.src = [] := hstop.resolve_left (not_not.2 hp)
  have hsplit := h.split.symm.trans h'.split
  simp [hsrc, hne] at hsplit

/-- How far DECODE reads given bytes is determined (R187). -/
theorem unique (h : Reads s bytes read t) (hstop : Stopped t) (h' : Reads s bytes again u) (hstop' : Stopped u) :
    read = again := by
  obtain ⟨more, rfl, -⟩ | ⟨more, rfl, -⟩ := List.append_eq_append_iff.1 (h.split.symm.trans h'.split)
  · rw [h.more_eq_nil hstop h', List.append_nil]
  · rw [h'.more_eq_nil hstop' h, List.append_nil]

/-- The state after a reading is determined by what was read, the port and the schedule. -/
theorem state_eq (h : Reads s bytes read t) (h' : Reads s bytes read u) (hport : t.port = u.port)
    (hsched : t.sched = u.sched) : t = u := by
  have hsrc : t.src = u.src := List.append_cancel_left (h.split.symm.trans h'.split)
  calc t = { s.rxBytes read with src := t.src, port := t.port, sched := t.sched } := h.regs
    _ = { s.rxBytes read with src := u.src, port := u.port, sched := u.sched } := by rw [hsrc, hport, hsched]
    _ = u := h'.regs.symm

end Reads

/-! ### Turns and runs of DECODE with nobody else moving (R170) -/

/-- A turn of the block in DECODE's loop ends it when it has stopped, or reads some bytes and stays in it. -/
theorem blockStep_decoding_cases {s : State} (hp : s.port = .decoding) :
    (Stopped s ∧ blockStep s = .next s.decodeEnd) ∨
      ∃ used t, used ≠ [] ∧ blockStep s = .next t ∧ Reads s s.src used t ∧ t.port = .decoding := by
  by_cases hstop : Stopped s
  · exact .inl ⟨hstop, blockStep_decodeEnd hp hstop⟩
  · obtain ⟨hs, hsrc⟩ : s.rxStat = .pending ∧ s.src ≠ [] := by
      rwa [Stopped, not_or, not_not] at hstop
    obtain ⟨used, left, hsplit, hused, hstep, hpending⟩ := blockStep_decoding hp hs hsrc
    obtain ⟨-, -, -, -, -, -, -, hport, -⟩ := (s.rxBytes_onlyRxSide used).fields
    exact .inr ⟨used, _, hused, hstep, ⟨hsplit, rfl, hpending⟩, hport.trans hp⟩

/-- With nobody else moving and no reset latched, a responded command's state stays. -/
theorem run_responded {s : State} {r : Response} (hp : s.port = .responded r) (h : OnlyBlock s)
    (hr : s.resetPending = false) (k : Nat) : run k s = .next s := by
  have hstep : step s = .next s :=
    (step_of_onlyBlock (by simp [State.resetDue, hr]) h).trans (blockStep_of_accepts (by rw [hp]; rfl))
  induction k with
  | zero => rfl
  | succ k ih => rw [run_succ k hstep, ih]

/-- After k turns DECODE is in its loop still and has read a byte a turn at least, or it has stopped and responded. -/
theorem run_reads {s : State} (hp : s.port = .decoding) (h : OnlyBlock s) (hr : s.resetPending = false) (k : Nat) :
    ∃ read t, run k s = .next t ∧ Reads s s.src read t ∧ t.sched = [] ∧
      (t.port = .decoding ∧ k ≤ read.length ∨ t.port = .responded ⟨.ok, t.status⟩ ∧ Stopped t) := by
  induction k generalizing s with
  | zero => exact ⟨[], s, rfl, .nothing rfl rfl, h.1, .inl ⟨hp, Nat.zero_le _⟩⟩
  | succ k ih =>
    have hstep : step s = blockStep s := step_of_onlyBlock (State.resetDue_of_busy (by rw [hp]; rfl)) h
    obtain ⟨hstop, hend⟩ | ⟨used, t, hused, hround, hreads, hport⟩ := blockStep_decoding_cases hp
    · have hstay : run k s.decodeEnd = .next s.decodeEnd := run_responded (s := s.decodeEnd) rfl h hr k
      exact ⟨[], s.decodeEnd, (run_succ k (hstep.trans hend)).trans hstay, .nothing rfl rfl, h.1, .inr ⟨rfl, hstop⟩⟩
    · obtain ⟨-, -, hlatch, hsched, hlater⟩ := blockStep_sameRest hround
      obtain ⟨read, u, hrun, hmore, hnil, hcase⟩ := ih hport ⟨hsched.trans h.1, hlater.trans h.2⟩ (hlatch.trans hr)
      have hboth := hreads.trans (more := []) (by rwa [List.append_nil])
      rw [List.append_nil] at hboth
      have hpos := List.length_pos_of_ne_nil hused
      refine ⟨used ++ read, u, (run_succ k (hstep.trans hround)).trans hrun, hboth, hnil, hcase.imp_left ?_⟩
      rintro ⟨hdec, hle⟩
      exact ⟨hdec, by rw [List.length_append]; omega⟩

/-- A response of DECODE's run shows STATUS, and comes when the loop has stopped. -/
theorem run_reads_responded {s t : State} {r : Response} {k : Nat} (hp : s.port = .decoding) (h : OnlyBlock s)
    (hr : s.resetPending = false) (hrun : run k s = .next t) (hport : t.port = .responded r) :
    ∃ read, Reads s s.src read t ∧ t.sched = [] ∧ t.port = .responded ⟨.ok, t.status⟩ ∧ Stopped t := by
  obtain ⟨read, u, hrun', hreads, hsched, hcase⟩ := run_reads hp h hr k
  cases hrun.symm.trans hrun'
  obtain ⟨hdec, -⟩ | ⟨hresp, hstop⟩ := hcase
  · rw [hdec] at hport
    cases hport
  · exact ⟨read, hreads, hsched, hresp, hstop⟩

/-- A DECODE with nobody else moving stops and responds. -/
theorem run_reads_ends {s : State} (hp : s.port = .decoding) (h : OnlyBlock s) (hr : s.resetPending = false) :
    ∃ k read t, run k s = .next t ∧ Reads s s.src read t ∧ t.sched = [] ∧ t.port = .responded ⟨.ok, t.status⟩ ∧
      Stopped t := by
  obtain ⟨read, t, hrun, hreads, hsched, ⟨-, hle⟩ | ⟨hport, hstop⟩⟩ := run_reads hp h hr (s.src.length + 1)
  · have hlen := congrArg List.length hreads.split
    rw [List.length_append] at hlen
    omega
  · exact ⟨_, read, t, hrun, hreads, hsched, hport, hstop⟩

/-- Settles O26: the run from the state of the entry reads until the loop stops, and then responds. -/
theorem decodeConsumesUpToOneFrame : Obligations.DecodeConsumesUpToOneFrame := by
  refine ⟨fun _ => decodeCmd_decode, fun s ⟨hnil, hlater⟩ hlatch => ?_⟩
  obtain ⟨-, -, -, -, -, -, -, -, hlatch', hsrc, -, -, -, hnil', hlater'⟩ := s.decodeEntry_onlyRxSide.fields
  obtain ⟨k, read, t, hrun, hreads, hsched, hport, hstop⟩ :=
    run_reads_ends (s := { s.decodeEntry with port := .decoding }) rfl ⟨hnil'.trans hnil, hlater'.trans hlater⟩
      (hlatch'.trans hlatch)
  obtain ⟨hsplit, hregs, hpending⟩ := hreads.of_outside (s := s.decodeEntry)
  refine ⟨_, k, t, read, exec_decode s, hrun, hsrc.symm.trans hsplit, ?_, hstop, hpending⟩
  obtain ⟨-, -, -, -, -, -, -, -, -, -, -, -, -, hsame, -⟩ := (s.decodeEntry.rxBytes_onlyRxSide read).fields
  have hsched' : t.sched = (s.decodeEntry.rxBytes read).sched := by rw [hsched, hsame, hnil', hnil]
  rwa [hport, hsched'] at hregs

/-- Settles O28: the first reading took all of its bytes, so the two in a row are a reading of all the bytes, which is the only
one. -/
theorem splitArrivalGivesTheSameFrame : Obligations.SplitArrivalGivesTheSameFrame := by
  intro s t t1 u t2 a b k k1 k2 v v1 v2 hp honly hlatch hrun hport hrun1 hport1 hs1 hentry hrun2 hport2
  obtain ⟨read, hreads, hsched, hresp, hstop⟩ :=
    run_reads_responded (s := { s with src := a ++ b }) hp honly hlatch hrun hport
  obtain ⟨read1, hreads1, hsched1, -, hstop1⟩ := run_reads_responded (s := { s with src := a }) hp honly hlatch hrun1 hport1
  have hempty : t1.src = [] := hstop1.resolve_left (not_not.2 hs1)
  have hall : a = read1 := by simpa [hempty] using hreads1.split
  subst hall
  rw [exec_decode, State.decodeEntry_pending (s := { t1 with src := b }) hs1] at hentry
  cases hentry
  obtain ⟨hlatch1, hlater1⟩ := hreads1.kept
  obtain ⟨read2, hreads2, hsched2, hresp2, hstop2⟩ :=
    run_reads_responded (s := { t1 with src := b, port := .decoding }) rfl ⟨hsched1, hlater1.trans honly.2⟩
      (hlatch1.trans hlatch) hrun2 hport2
  have hrest : Reads t1 (t1.src ++ b) read2 t2 := by
    rw [hempty]
    exact hreads2.of_outside (s := t1)
  have hboth : Reads s (a ++ b) (a ++ read2) t2 := (hreads1.of_outside (s := s)).trans hrest
  have hone : Reads s (a ++ b) read t := hreads.of_outside (s := s)
  obtain rfl : read = a ++ read2 := hone.unique hstop hboth hstop2
  have hport' : t2.port = t.port := by rw [hresp2, hresp, hboth.status_eq, hone.status_eq]
  exact hboth.state_eq hone hport' (hsched2.trans hsched.symm)

/-! ### Schedules of turns and arrivals (R187, 20_memory.md R58, R65) -/

/-- DECODE is in its loop, or it has responded with STATUS. -/
def DecodeRuns (s : State) : Prop := s.port = .decoding ∨ s.port = .responded ⟨.ok, s.status⟩

/-- A turn of the block reads some bytes of SRC, or none. -/
theorem DecodeRuns.blockStep_reads {s : State} (h : DecodeRuns s) :
    ∃ used t, blockStep s = .next t ∧ Reads s s.src used t ∧ DecodeRuns t := by
  obtain hp | hp := h
  · obtain ⟨-, hend⟩ | ⟨used, t, -, hround, hreads, hport⟩ := blockStep_decoding_cases hp
    · exact ⟨[], _, hend, .nothing rfl rfl, .inr rfl⟩
    · exact ⟨used, t, hround, hreads, .inl hport⟩
  · exact ⟨[], s, blockStep_of_accepts (by rw [hp]; rfl), .nothing rfl rfl, .inr hp⟩

/-- A turn or an arrival reads some of the bytes that wait and arrive, or none, and takes itself off the schedule. -/
theorem DecodeRuns.step_reads {s : State} (h : DecodeRuns s) (hr : s.resetPending = false) {e : Event} {rest : List Event}
    (hsched : s.sched = e :: rest) (he : e = .turn ∨ ∃ b, e = .arrive b) :
    ∃ used t, step s = .next t ∧ Reads s (s.src ++ arrivals [e]) used t ∧ DecodeRuns t ∧ t.sched = rest := by
  have hstep : step s = perform e { s with sched := rest } :=
    step_of_move (by simp [State.resetDue, hr]) (State.nextMove_of_sched hsched)
  obtain rfl | ⟨b, rfl⟩ := he
  · obtain ⟨used, t, hturn, hreads, ht⟩ := DecodeRuns.blockStep_reads (s := { s with sched := rest }) h
    obtain ⟨-, -, -, hrest, -⟩ := blockStep_sameRest hturn
    refine ⟨used, t, hstep.trans hturn, ?_, ht, hrest⟩
    rw [arrivals, arrivals, List.append_nil]
    exact hreads.of_outside (s := s)
  · exact ⟨[], State.srcAppend { s with sched := rest } b, hstep, .nothing rfl rfl, h, rfl⟩

theorem arrivals_cons (e : Event) (rest : List Event) : arrivals (e :: rest) = arrivals [e] ++ arrivals rest := by
  cases e <;> rfl

/-- A whole schedule of turns and arrivals. -/
theorem DecodeRuns.run_sched_reads {s : State} (h : DecodeRuns s) (hr : s.resetPending = false) (hmoves : OnlyArrivals s.sched) :
    ∃ read t, run s.sched.length s = .next t ∧ Reads s (s.src ++ arrivals s.sched) read t ∧ DecodeRuns t ∧
      t.sched = [] := by
  induction hsched : s.sched generalizing s with
  | nil =>
    rw [arrivals, List.append_nil]
    exact ⟨[], s, rfl, .nothing rfl rfl, h, hsched⟩
  | cons e rest ih =>
    rw [hsched] at hmoves
    obtain ⟨used, t, hstep, hreads, ht, hrest⟩ := h.step_reads hr hsched (hmoves e List.mem_cons_self)
    obtain ⟨read, u, hrun, hmore, hu, hnil⟩ := ih ht (hreads.kept.1.trans hr)
      (by rw [hrest]; exact fun f hf => hmoves f (List.mem_cons_of_mem e hf)) hrest
    refine ⟨used ++ read, u, (run_succ _ hstep).trans hrun, ?_, hu, hnil⟩
    rw [arrivals_cons, ← List.append_assoc]
    exact hreads.trans hmore

/-- Settles O27: each move of the schedule reads a beginning of the bytes there are, and so do all of them in a row. -/
theorem arrivalPatternDoesNotMatter : Obligations.ArrivalPatternDoesNotMatter := by
  intro s hp hr hmoves
  obtain ⟨read, t, hrun, ⟨hsplit, hregs, hpending⟩, ht, hnil⟩ := DecodeRuns.run_sched_reads (.inl hp) hr hmoves
  rw [hnil] at hregs
  exact ⟨t, read, hrun, hsplit, hregs, ht, hpending⟩

end Sys2Proof.Machine

/-! PROOF. The end of a frame: what can follow it (42_decoder.md R185), the next frame's reception (R189), and what a payload byte
changed on the wire makes of the frame (R174, R190). -/

namespace Sys2Proof.Machine

/-! ### Only DECODE and reset change an ended frame (R185) -/

/-- A command word decodes to a command, never to a wire symbol (30_encoding.md R89). -/
theorem isCommand_of_decodeCmd {w : Word} {i : Instr} (h : decodeCmd w = .instr i) : i.isCommand = true := by
  obtain ⟨row, hrow, -, rfl⟩ := decodeCmd_row h
  have hrows : ∀ row ∈ cmdTable, ∀ a b, (row.build a b).isCommand = true := by simp [cmdTable, Instr.isCommand]
  exact hrows row hrow _ _

/-- DECODE has one opcode (R89). -/
theorem opField_of_decode {w : Word} (h : decodeCmd w = .instr .decode) : opField w = 0x10 := by
  obtain ⟨row, hrow, hop, hbuild⟩ := decodeCmd_row h
  rw [← hop]
  have hrows : ∀ row ∈ cmdTable, ∀ a b, row.build a b = .decode → row.op = 0x10 := by simp [cmdTable]
  exact hrows row hrow _ _ hbuild

section
variable {s t : State} (hs : s.rxStat ≠ .pending)
include hs

/-- A turn of the block leaves an ended frame, or begins a DECODE. -/
theorem blockStep_ended_sameRxSide (h : blockStep s = .next t) :
    SameRxSide s t ∨ ∃ w, s.port = .issued w ∧ opField w = 0x10 := by
  obtain ⟨-, rfl⟩ | ⟨w, i, hp, hd, hexec⟩ | ⟨w, -, rfl⟩ | ⟨todo, total, -, rfl⟩ | ⟨-, used, left, rfl⟩ | ⟨-, rfl⟩ :=
    blockStep_cases h
  · exact .inl (SameRxSide.refl t)
  · by_cases hi : i = .decode
    · subst hi
      exact .inr ⟨w, hp, opField_of_decode hd⟩
    · exact .inl (exec_sameRxSide hexec (isCommand_of_decodeCmd hd) hi)
  · exact .inl (SameRxSide.refl s)
  · cases todo <;> exact .inl (SameRxSide.refl s)
  · rw [State.rxBytes_ended hs]
    exact .inl (SameRxSide.refl s)
  · exact .inl (SameRxSide.refl s)

/-- A move other than reset leaves an ended frame, or is the block's turn that begins a DECODE. -/
theorem perform_ended_sameRxSide {e : Machine.Event} (he : e ≠ .reset) (h : perform e s = .next t) :
    SameRxSide s t ∨ e = .turn ∧ ∃ w, s.port = .issued w ∧ opField w = 0x10 := by
  cases e with
  | turn => exact (blockStep_ended_sameRxSide hs h).imp_right fun hw => ⟨rfl, hw⟩
  | command w =>
    obtain ⟨-, rfl⟩ := hostStep_next h
    exact .inl (SameRxSide.refl s)
  | arrive b => cases h; exact .inl (SameRxSide.refl s)
  | drain =>
    cases h
    unfold State.sinkDrain
    split <;> exact .inl (SameRxSide.refl s)
  | reset => exact absurd rfl he

end

/-- Settles O38: a step is a reset, or a move made on the same receive side. -/
theorem terminalFrameIsKept : Obligations.TerminalFrameIsKept := by
  intro s t hs h
  obtain ⟨hdue, -⟩ | ⟨-, hreset, -⟩ | ⟨-, hother, hmove⟩ := step_cases h
  · exact .inr (.inl hdue)
  · exact .inr (.inr (.inl ⟨s.nextMove.2, Prod.ext hreset rfl⟩))
  · obtain hsame | ⟨hturn, w, hp, hop⟩ := perform_ended_sameRxSide (by simpa using hs) hother hmove
    · rw [State.nextMove_eq] at hsame
      exact .inl hsame
    · rw [State.nextMove_port] at hp
      exact .inr (.inr (.inr ⟨w, s.nextMove.2, hp, hop, Prod.ext hturn rfl⟩))

/-! ### The next frame (R173, R189) -/

/-- While hunting, bytes other than START are discarded. -/
theorem State.rxBytes_discarded {s : State} (hs : s.rxStat = .pending) (hd : s.decSt = .awaitStart) {bytes : List Byte}
    (h : startByte ∉ bytes) : s.rxBytes bytes = s := by
  induction bytes with
  | nil => rfl
  | cons b rest ih =>
    obtain ⟨hb, hrest⟩ := List.ne_and_not_mem_of_not_mem_cons h
    rw [State.rxBytes_cons, State.rxByte_discarded hs hd (Ne.symm hb), ih hrest]

/-- Settles O58: the entry Clears the ended frame, the skipped bytes change nothing, and the hunting receiver takes the frame. -/
theorem decoderResynchronises : Obligations.DecoderResynchronises := by
  intro s skipped t n p hs hskipped hlen hcap
  obtain ⟨v, htakes, hready, -, htype, hrxLen, hpayload, -, -⟩ :=
    takes_frame (s := { s.clear with port := .decoding }) s.clear_rxInv rfl rfl t hlen hcap
  have hentry : exec .decode s = .next { s.clear with port := .decoding } := by
    rw [exec_decode, State.decodeEntry_ended hs]
  refine ⟨_, hentry, ?_⟩
  rw [State.rxBytes_append, State.rxBytes_discarded rfl rfl hskipped, htakes.result]
  exact ⟨hready, htype, hrxLen, hpayload⟩

/-! ### A payload byte changed on the wire (R190) -/

section
variable {s : State} {t : Byte} {n : Half} {p : List Byte}

/-- A raw payload byte that is no START and no escape byte, with room for it, is stored, reserved or not (R176, R182). -/
theorem Receiving.takes_raw (h : Receiving s t n p) {x : Byte} (hstart : x ≠ startByte) (hesc : x ≠ escByte)
    (hmore : p.length < (plen n).toNat) (hroom : p.length < s.cfg.rxCap) : Takes s [x] (s.dataByte x) := by
  refine ⟨?_, pendingUntil_one h.stat x⟩
  rw [State.rxBytes_cons, State.rxBytes_nil, State.rxByte_plain h.stat (by simp [h.decSt]) h.decEsc hstart hesc,
    State.dataSymbol, h.decSt]
  exact (if_neg (mt h.decCnt_eq_plen_iff.1 hmore.ne)).trans (if_neg (h.cnt ▸ hroom.ne))

/-- After the whole payload a byte other than its checksum ends the frame with ChecksumFailure (R184). -/
theorem Receiving.takes_badChecksum (h : Receiving s t n p) (hall : p.length = (plen n).toNat) {c : Byte}
    (hc : chk t p ≠ c) :
    Takes s (esc c) (State.terminate { s with rxCsum := c, decAcc := s.decAcc + c } .checksumFailure) := by
  have hfail : s.decAcc + c ≠ 0xFF := by rwa [h.acc, ne_eq, ← chk_eq_iff]
  have hsum : s.payloadByte c = _ := (if_pos (h.decCnt_eq_plen_iff.2 hall)).trans (if_neg hfail)
  exact hsum ▸ h.takes_esc c

/-- A raw START among the payload bytes ends the frame with UnexpectedStart (R174). -/
theorem Receiving.rxByte_start (h : Receiving s t n p) : s.rxByte startByte = s.terminate .unexpectedStart :=
  State.rxByte_start h.stat (by simp [h.decSt])

end

/-- From the hunt, the head and a beginning of the payload that fits (R173, R177 to R182). -/
theorem takes_beginning {s : State} (h : RxInv s) (hs : s.rxStat = .pending) (hd : s.decSt = .awaitStart) (t : Byte)
    {n : Half} {p : List Byte} (hlen : p.length ≤ (plen n).toNat) (hcap : p.length ≤ s.cfg.rxCap) :
    ∃ u, Takes s (frameHead t n ++ escAll p) u ∧ Receiving u t n p := by
  obtain ⟨v, hhead, hv⟩ := takes_frameHead h hs hd t n
  obtain ⟨u, hpayload, hu⟩ := hv.takes_escAll (q := p) hlen (hhead.cfg_eq ▸ hcap)
  exact ⟨u, hhead.append hpayload, hu⟩

/-- The rest of a frame after a raw byte that took a payload byte's place, its checksum not that of the bytes received. -/
theorem Receiving.takes_corrupted {s : State} {t x c : Byte} {n : Half} {p q : List Byte} (h : Receiving s t n p)
    (hstart : x ≠ startByte) (hesc : x ≠ escByte) (hlen : (p ++ x :: q).length = (plen n).toNat)
    (hcap : (p ++ x :: q).length ≤ s.cfg.rxCap) (hc : chk t (p ++ x :: q) ≠ c) :
    ∃ u, Takes s ([x] ++ escAll (q ++ [c])) u ∧ u.rxStat = .errored ∧ u.rxErr = .checksumFailure := by
  have hfits : p.length < (p ++ x :: q).length := by simp
  have hraw := h.takes_raw hstart hesc (hlen ▸ hfits) (hfits.trans_le hcap)
  rw [List.append_cons] at hlen hcap hc
  obtain ⟨u, hrest, hu⟩ := (h.dataByte (hfits.trans_le (by rwa [List.append_cons])) x).takes_escAll hlen.le hcap
  rw [escAll_append, escAll_cons, escAll_nil, List.append_nil]
  exact ⟨_, hraw.append (hrest.append (hu.takes_badChecksum hlen hc)), rfl, rfl⟩

/-- Settles O57: up to the changed byte the frame is received as sent; START ends it there, and any other byte is summed in place
of the one sent, so that the checksum no longer fits. -/
theorem corruptedPayloadByteIsDetected : Obligations.CorruptedPayloadByteIsDetected := by
  intro r t b x n p q hlen hcap hinv hs hd hb hx
  dsimp only
  have hbefore : p.length ≤ (p ++ b :: q).length := by simp
  obtain ⟨u, hhead, hu⟩ := takes_beginning hinv hs hd t (n := n) (hlen ▸ hbefore) (hbefore.trans hcap)
  rw [frameHead_append]
  refine ⟨?_, fun hstart hesc => ?_, ?_⟩
  · rw [enc_eq, escAll_append, escAll_cons, esc_of_plain hb]
    simp
  · have hchanged : chk t (p ++ x :: q) ≠ chk t (p ++ b :: q) := by
      rwa [ne_eq, chk_eq_chk_iff, sum8_change_byte_iff]
    have hsame : (p ++ x :: q).length = (p ++ b :: q).length := by simp
    obtain ⟨e, hrest, herrored, hfailed⟩ := hu.takes_corrupted hstart hesc (hsame.trans hlen)
      (hhead.cfg_eq ▸ hsame.trans_le hcap) hchanged
    have hwhole := hhead.append hrest
    rw [← List.append_assoc] at hwhole
    rw [hwhole.result]
    exact ⟨herrored, hfailed, hwhole.pending⟩
  · rintro rfl
    have hend : u.rxByte 0x7E = u.terminate .unexpectedStart := hu.rxByte_start
    rw [State.rxBytes_append, hhead.result, State.rxBytes_cons, State.rxBytes_nil, hend]
    exact ⟨rfl, rfl⟩

end Sys2Proof.Machine

/-! PROOF. Command errors, ended frames and the one stop of the machine (60_exceptions.md R210, R211, R213, R218,
70_reset_and_hazards.md R252). -/

namespace Sys2Proof.Machine

/-! ### Command errors (R211, R213) -/

/-- A command that tests its operand and raises `rc` where the test fails answers an error on that branch only. -/
theorem error_of_guarded {c : Prop} [Decidable c] {rc : RespCode} {s u t : State} {val : Word} {r : Response}
    (h : (.next (if c then u.respond .ok val else s.raiseCmdError rc) : Result) = .next t)
    (hport : t.port = .responded r) (herr : r.rc ≠ .ok) : r.val = 0 ∧ SameBlock s t ∧ r.rc = rc := by
  cases h
  by_cases hc : c
  · rw [if_pos hc] at hport
    cases hport
    exact absurd rfl herr
  · rw [if_neg hc] at hport ⊢
    cases hport
    exact ⟨rfl, SameBlock.raiseCmdError s rc, rfl⟩

/-- Settles O46: four commands test an operand; the others answer OK, or in a later step (DECODE and ENCODE). -/
theorem commandErrorsArePrecise : Obligations.CommandErrorsArePrecise := by
  intro i s t r hcmd h hport herr
  cases i with
  | txSetLen a =>
    obtain ⟨hval, hsame, hrc⟩ := error_of_guarded h hport herr
    exact ⟨hval, hsame, .inl ⟨a, rfl, hrc⟩⟩
  | txWrite a b =>
    obtain ⟨hval, hsame, hrc⟩ := error_of_guarded h hport herr
    exact ⟨hval, hsame, .inr (.inl ⟨a, b, rfl, hrc⟩)⟩
  | txRdByte a =>
    obtain ⟨hval, hsame, hrc⟩ := error_of_guarded h hport herr
    exact ⟨hval, hsame, .inr (.inr (.inl ⟨a, rfl, hrc⟩))⟩
  | rxRdByte a =>
    obtain ⟨hval, hsame, hrc⟩ := error_of_guarded h hport herr
    exact ⟨hval, hsame, .inr (.inr (.inr ⟨a, rfl, hrc⟩))⟩
  | txSetType | txCsum | flush | rdStatus | rdTxstat | txRdType | txRdLen | txRdCsum | txVerify
  | rxRdType | rxRdLen | rxRdCsum | rxVerify => cases h; cases hport; exact absurd rfl herr
  | decode | encode => cases h; cases hport
  | wireStart | wireEsc7E | wireEsc7D | wireEsc11 | wireEsc13 | wireEscOther | wireData => cases hcmd

/-! ### What can stop the machine (R210, R252) -/

/-- Each arm of exec answers a next state: an error of a command is a response, and one of a frame is in RX_STAT. -/
theorem exec_total (i : Instr) (s : State) : ∃ t, exec i s = .next t := by
  cases i <;> exact ⟨_, rfl⟩

/-- A turn of the block runs an instruction, or settles by itself. -/
theorem blockStep_total (s : State) : ∃ t, blockStep s = .next t := by
  unfold blockStep
  cases s.fetch with
  | run i u => exact exec_total i u
  | settled u => exact ⟨u, rfl⟩

/-- The host's move is the only one that can stop, and does so where the port does not accept a word. -/
theorem perform_next_or_fault (e : Machine.Event) (s : State) :
    (∃ t, perform e s = .next t) ∨
      perform e s = .fault .commandBeforeResponse ∧ s.port.accepts = false ∧ ∃ w, e = .command w := by
  cases e with
  | turn => exact .inl (blockStep_total s)
  | command w =>
    cases hfree : s.port.accepts with
    | true => exact .inl ⟨_, if_pos hfree⟩
    | false => exact .inr ⟨if_neg (by simp [hfree]), rfl, w, rfl⟩
  | arrive b => exact .inl ⟨_, rfl⟩
  | drain => exact .inl ⟨_, rfl⟩
  | reset => exact .inl ⟨_, rfl⟩

/-- Settles O49: a step applies the reset that is due, or makes the next move on the port as it was. -/
theorem onlyAnEarlyCommandStops : Obligations.OnlyAnEarlyCommandStops := by
  refine ⟨exec_total, fun s => ?_⟩
  cases hdue : s.resetDue with
  | true => exact .inl ⟨s.applyReset, if_pos hdue⟩
  | false =>
    rw [step_of_move hdue rfl]
    obtain hnext | ⟨hfault, hbusy, w, hw⟩ := perform_next_or_fault s.nextMove.1 s.nextMove.2
    · exact .inl hnext
    · rw [State.nextMove_port] at hbusy
      exact .inr ⟨hfault, w, s.nextMove.2, Prod.ext hw rfl, hbusy⟩

/-! ### After the end of a frame (R218) -/

/-- An escape pair after the end of a frame, with or without a pending escape. -/
theorem State.rxEscaped_ended {s : State} (hs : s.rxStat ≠ .pending) (x : Byte) : s.rxEscaped x = s := by
  cases he : s.decEsc with
  | false => rw [State.rxEscaped_boundary he, State.rxBytes_ended hs]
  | true => rw [State.rxEscaped_pending he, State.rxByte_ended hs]

/-- Settles O33: every wire symbol is one byte step or an escape pair, and an ended frame takes neither. -/
theorem endedFrameTakesNoSymbol : Obligations.EndedFrameTakesNoSymbol := by
  intro s i hs hwire
  cases i with
  | wireStart | wireData => exact congrArg _ (State.rxByte_ended hs _)
  | wireEsc7E | wireEsc7D | wireEsc11 | wireEsc13 | wireEscOther => exact congrArg _ (State.rxEscaped_ended hs _)
  | _ => cases hwire

end Sys2Proof.Machine

/-! PROOF. Reset (70_reset_and_hazards.md R240, R241, R242): the values it writes, when it is applied, and the power-up state. -/

namespace Sys2Proof.Machine

/-! ### The values of R240 -/

/-- With the decoder's registers at their reset values STATUS reads 0 (10_state.md R38). -/
@[simp] theorem State.clear_status (s : State) : s.clear.status = 0 := by
  simp [State.status, DecSt.code, RxErr.code, RxStat.code]

/-- RX_CAP lies between 1 and 65534 (00_scope.md R5). -/
theorem rxCap_bounds (c : Config) : 1 ≤ c.rxCap ∧ c.rxCap ≤ 65534 := ⟨Nat.succ_pos _, c.rxCapPred.isLt⟩

/-- TX_CAP lies between 1 and 65534 (00_scope.md R6). -/
theorem txCap_bounds (c : Config) : 1 ≤ c.txCap ∧ c.txCap ≤ 65534 := ⟨Nat.succ_pos _, c.txCapPred.isLt⟩

/-- The power-up state is one that Clear leaves as it is (42_decoder.md R171). -/
theorem State.clear_reset : State.reset.clear = State.reset := rfl

/-- Settles O45: each register of the power-up state is written out, and the capacities are bounded by their type. -/
theorem powerUpStateHoldsTheResetValues : Obligations.PowerUpStateHoldsTheResetValues := by
  obtain ⟨hrxMin, hrxMax⟩ := rxCap_bounds State.reset.cfg
  obtain ⟨htxMin, htxMax⟩ := txCap_bounds State.reset.cfg
  exact ⟨rfl, rfl, rfl, rfl, rfl, rfl, rfl, rfl, rfl, rfl, rfl, rfl, rfl, State.reset.clear_status, rfl,
    hrxMin, hrxMax, htxMin, htxMax⟩

/-- Settles O53: both buffers and the TX frame are empty, the receive side is as Clear leaves it, and no ENCODE runs. -/
theorem resetMeetsTheInvariant : Obligations.ResetMeetsTheInvariant := by
  have hmem : MemInv State.reset := ⟨Memory.wf_nil, Memory.wf_nil, Memory.below_nil _, Memory.below_nil _⟩
  have htx : TxInv State.reset := ⟨Nat.zero_le _, fun _ => rfl⟩
  have hrx : RxInv State.reset := State.clear_reset ▸ State.reset.clear_rxInv
  exact ⟨hmem, htx, hrx, trivial⟩

/-! ### When reset is applied (R241) -/

section
variable {s : State}

theorem State.assertReset_of_accepts (h : s.port.accepts = true) : s.assertReset = s.applyReset := if_pos h

theorem State.assertReset_of_busy (h : s.port.accepts = false) : s.assertReset = { s with resetPending := true } :=
  if_neg (by simp [h])

end

/-- The port accepts a command when it is idle or holds a response (30_encoding.md R94). -/
theorem Port.accepts_of_free {p : Port} (h : p = .idle ∨ ∃ r, p = .responded r) : p.accepts = true := by
  obtain rfl | ⟨r, rfl⟩ := h <;> rfl

/-- The port accepts no command while one is issued or executes (R94). -/
theorem Port.accepts_of_executing {p : Port}
    (h : p = .decoding ∨ (∃ w, p = .issued w) ∨ ∃ todo n, p = .encoding todo n) : p.accepts = false := by
  obtain rfl | ⟨w, rfl⟩ | ⟨todo, n, rfl⟩ := h <;> rfl

/-- Settles O43: between commands the reset input applies the reset at once. -/
theorem resetWritesTheResetValues : Obligations.ResetWritesTheResetValues := by
  intro s u hu hlatch hfree
  have hport : u.port.accepts = true := by
    rw [State.eq_of_nextMove hu]
    exact Port.accepts_of_free hfree
  have hstep : step s = .next u.applyReset :=
    (step_of_move (by simp [State.resetDue, hlatch]) hu).trans (congrArg _ (State.assertReset_of_accepts hport))
  refine ⟨u.applyReset, hstep, rfl, rfl, rfl, rfl, fun _ => rfl, ?_, rfl, rfl, rfl, rfl, rfl, rfl, rfl, rfl, rfl,
    u.clear_status, rfl, ?_, ?_, rfl, rfl⟩
  · rw [State.eq_of_nextMove hu]; rfl
  · rw [State.eq_of_nextMove hu]; exact SameLink.refl s
  · rw [State.eq_of_nextMove hu]; rfl

/-- Settles O44: the reset input asks the port, and so does the next step with the latch set. -/
theorem resetWaitsForTheResponse : Obligations.ResetWaitsForTheResponse := by
  refine fun s => ⟨fun u hu hexecuting => ?_, fun r hlatch hp => ⟨if_pos ?_, rfl⟩⟩
  · have hbusy := Port.accepts_of_executing hexecuting
    have hport : u.port.accepts = false := by rwa [State.eq_of_nextMove hu]
    exact (step_of_move (State.resetDue_of_busy hbusy) hu).trans (congrArg _ (State.assertReset_of_busy hport))
  · rw [State.resetDue, hlatch, hp]
    rfl

end Sys2Proof.Machine

/-! PROOF. A payload byte changed after TX_CSUM (70_reset_and_hazards.md R246): ENCODE sends the new payload with the checksum of
the old one, which is not its own (40_frame_access.md R127). -/

namespace Sys2Proof.Machine

/-- The payload after a TXB write is the former one with its byte at the index replaced (10_state.md R24). -/
theorem State.writeTxb_txPayload (s : State) (a : Half) (b : Byte) :
    (s.writeTxb a b).txPayload = s.txPayload.set a.toNat b := by
  refine List.ext_getElem (by simp [State.txPayload]) fun i _ _ => ?_
  by_cases hi : a.toNat = i
  · subst hi
    simp [State.txPayload]
  · rw [List.getElem_set_ne hi]
    simp [State.txPayload, State.writeTxb_txbAt_other s b (Ne.symm hi)]

/-- Replacing a byte of the payload by another value changes the checksum (40_frame_access.md R127). -/
theorem chk_set_ne {t b : Byte} {p : List Byte} {i : Nat} (hi : i < p.length) (hb : p[i] ≠ b) :
    chk t (p.set i b) ≠ chk t p := by
  have hold : p.take i ++ p[i] :: p.drop (i + 1) = p := by rw [List.cons_getElem_drop_succ, List.take_append_drop]
  have hnew : p.take i ++ b :: p.drop (i + 1) = p.set i b := (List.set_eq_take_append_cons_drop.trans (if_pos hi)).symm
  have hchanged : chk t (p.take i ++ b :: p.drop (i + 1)) ≠ chk t (p.take i ++ p[i] :: p.drop (i + 1)) := by
    rw [ne_eq, chk_eq_chk_iff, sum8_change_byte_iff]
    exact Ne.symm hb
  rwa [hold, hnew] at hchanged

/-- A whole frame that fits RX_CAP, its checksum byte another than that of its contents, ends in ChecksumFailure with that
byte received (42_decoder.md R184). -/
theorem takes_frame_badChecksum {s : State} (h : RxInv s) (hs : s.rxStat = .pending) (hd : s.decSt = .awaitStart) {t c : Byte}
    {n : Half} {p : List Byte} (hlen : p.length = (plen n).toNat) (hcap : p.length ≤ s.cfg.rxCap) (hc : chk t p ≠ c) :
    ∃ u, Takes s (enc t n p c) u ∧ u.rxStat = .errored ∧ u.rxErr = .checksumFailure ∧ u.rxCsum = c := by
  obtain ⟨u, hhead, hu⟩ := takes_beginning h hs hd t hlen.le hcap
  rw [enc_eq]
  exact ⟨_, hhead.append (hu.takes_badChecksum hlen hc), rfl, rfl, rfl⟩

/-- With TX_CSV set ENCODE takes the checksum as stored (41_encoder.md R150). -/
theorem State.ensureTxCsum_of_set {s : State} (h : s.txCsv = true) : s.ensureTxCsum = s := if_pos h

/-- Settles O59: the write leaves TX_CSUM and TX_CSV, ENCODE sends the stored checksum, and it is not that of the new payload. -/
theorem staleChecksumIsDetected : Obligations.StaleChecksumIsDetected := by
  intro s s1 s2 r a b hcsv hcsum hlt hb hwrite hencode hcap hinv hs hd
  rw [exec_txWrite_legal (decide_eq_true hlt)] at hwrite
  cases hwrite
  rw [exec_encode, State.ensureTxCsum_of_set (by simpa using hcsv)] at hencode
  cases hencode
  have hlen : s.txPayload.length = (plen s.txLen).toNat := by simp [State.txPayload]
  have hindex : a.toNat < s.txPayload.length := hlen ▸ BitVec.lt_def.1 hlt
  have hold : s.txPayload[a.toNat] ≠ b := by simpa [State.txPayload] using hb
  have hstale : chk s.txType (s.txPayload.set a.toNat b) ≠ s.txCsum := hcsum ▸ chk_set_ne hindex hold
  have hwire : ((s.writeTxb a b).respond .ok 0).txWire =
      enc s.txType s.txLen (s.txPayload.set a.toNat b) s.txCsum := by
    rw [State.txWire, State.respond_txPayload, State.writeTxb_txPayload]
    rfl
  obtain ⟨e, htakes, hend⟩ := takes_frame_badChecksum hinv hs hd (n := s.txLen) (by rwa [List.length_set])
    (by rwa [List.length_set, hlen]) hstale
  refine ⟨_, rfl, rfl, ?_⟩
  rw [hwire, htakes.result]
  exact hend

end Sys2Proof.Machine

/-! PROOF. How long commands take (70_reset_and_hazards.md R253): DECODE goes on while SRC holds a byte and the frame is Pending,
and any other command responds after a bounded number of the block's turns. -/

namespace Sys2Proof.Machine

/-! ### Moves of the others while a command executes -/

/-- While a command executes, only the block's turn moves the port: the host has no step, and a reset is latched (R241). -/
theorem perform_busy {e : Machine.Event} {s t : State} (hbusy : s.port.accepts = false) (he : e ≠ .turn)
    (h : perform e s = .next t) : t.port = s.port ∧ t.txLen = s.txLen ∧ t.sched = s.sched := by
  cases e with
  | turn => exact absurd rfl he
  | command w =>
    obtain ⟨hfree, -⟩ := hostStep_next h
    simp [hbusy] at hfree
  | arrive b => cases h; exact ⟨rfl, rfl, rfl⟩
  | drain =>
    cases h
    unfold State.sinkDrain
    split <;> exact ⟨rfl, rfl, rfl⟩
  | reset =>
    cases h
    rw [State.assertReset_of_busy hbusy]
    exact ⟨rfl, rfl, rfl⟩

/-- A move that is no command is made. -/
theorem perform_of_no_command {e : Machine.Event} (he : ∀ w, e ≠ .command w) (s : State) : ∃ t, perform e s = .next t :=
  (perform_next_or_fault e s).resolve_right fun ⟨_, _, w, hw⟩ => he w hw

/-- While a command executes no reset is due, and a step is the next move. -/
theorem step_of_busy {s u : State} {e : Machine.Event} (hbusy : s.port.accepts = false) (h : s.nextMove = (e, u)) :
    step s = perform e u := step_of_move (State.resetDue_of_busy hbusy) h

/-! ### DECODE with a byte to read (42_decoder.md R170) -/

/-- With a Pending frame and a byte in SRC, a turn of the block reads and stays in DECODE's loop. -/
theorem blockStep_decoding_reads {s : State} (hp : s.port = .decoding) (hsrc : s.src ≠ []) (hs : s.rxStat = .pending) :
    ∃ used t, used ≠ [] ∧ blockStep s = .next t ∧ Reads s s.src used t ∧ t.port = .decoding := by
  refine (blockStep_decoding_cases hp).resolve_left fun ⟨hstop, _⟩ => ?_
  exact hstop.elim (absurd hs) hsrc

/-- No step of any agent ends DECODE then. -/
theorem step_keeps_decoding {s t : State} (hp : s.port = .decoding) (hsrc : s.src ≠ []) (hs : s.rxStat = .pending)
    (h : step s = .next t) : t.port = .decoding := by
  have hbusy : s.port.accepts = false := by rw [hp]; rfl
  have hmove : perform s.nextMove.1 s.nextMove.2 = .next t := (step_of_busy hbusy rfl).symm.trans h
  by_cases he : s.nextMove.1 = .turn
  · rw [he] at hmove
    obtain ⟨used, u, -, hround, -, hport⟩ :=
      blockStep_decoding_reads (s := s.nextMove.2) (by simpa using hp) (by simpa using hsrc) (by simpa using hs)
    cases hround.symm.trans hmove
    exact hport
  · obtain ⟨hport, -⟩ := perform_busy (s := s.nextMove.2) (by simpa using hbusy) he hmove
    rw [hport, State.nextMove_port, hp]

/-- Each turn of the block reads a byte at least. -/
theorem step_decoding_turn {s u : State} (hp : s.port = .decoding) (hsrc : s.src ≠ []) (hs : s.rxStat = .pending)
    (hu : BlockMoves s u) : ∃ t, step s = .next t ∧ t.port = .decoding ∧ t.src.length < s.src.length := by
  have hstep : step s = blockStep u := step_of_busy (by rw [hp]; rfl) hu
  have hsame : u.port = s.port ∧ u.src = s.src ∧ u.rxStat = s.rxStat := by
    rw [State.eq_of_nextMove hu]
    exact ⟨rfl, rfl, rfl⟩
  obtain ⟨hport, hsrc', hstat⟩ := hsame
  obtain ⟨used, t, hused, hround, hreads, hdec⟩ :=
    blockStep_decoding_reads (hport.trans hp) (hsrc' ▸ hsrc) (hstat.trans hs)
  refine ⟨t, hstep.trans hround, hdec, ?_⟩
  rw [← hsrc', hreads.split, List.length_append]
  exact Nat.lt_add_of_pos_left (List.length_pos_of_ne_nil hused)

/-! ### A DECODE that never ends (R253) -/

/-- DECODE hunts, no START waits in SRC, and `b` arrives before every turn of the block, without end. -/
structure Hanging (b : Byte) (s : State) : Prop where
  port : s.port = .decoding
  stat : s.rxStat = .pending
  decSt : s.decSt = .awaitStart
  noStart : startByte ∉ s.src
  later : s.later = .cycle [.arrive b, .turn]
  sched : s.sched = [] ∨ s.sched = [.turn] ∧ s.src ≠ []

/-- The arrival of a byte other than START, or the turn that discards what it reads, leads to such a state again. -/
theorem Hanging.step {b : Byte} {s : State} (h : Hanging b s) (hb : b ≠ startByte) :
    ∃ t, step s = .next t ∧ Hanging b t := by
  obtain ⟨hp, hs, hd, hno, hlater, hsched⟩ := h
  have hbusy : s.port.accepts = false := by rw [hp]; rfl
  obtain hnil | ⟨hturn, hsrc⟩ := hsched
  · have hstep := step_of_busy hbusy (State.nextMove_of_cycle hnil hlater)
    exact ⟨_, hstep, hp, hs, hd, by simp [hno, Ne.symm hb], hlater, .inr ⟨rfl, by simp⟩⟩
  · have hstep := step_of_busy hbusy (State.nextMove_of_sched hturn)
    obtain ⟨used, left, hsplit, -, hround, -⟩ := blockStep_decoding (s := { s with sched := [] }) hp hs hsrc
    have hno' : startByte ∉ used ++ left := hsplit ▸ hno
    rw [List.mem_append, not_or] at hno'
    rw [State.rxBytes_discarded (s := { s with sched := [] }) hs hd hno'.1] at hround
    exact ⟨_, hstep.trans hround, hp, hs, hd, hno'.2, hlater, .inl rfl⟩

/-- It is in its loop after any number of steps. -/
theorem Hanging.run {b : Byte} {s : State} (h : Hanging b s) (hb : b ≠ startByte) (k : Nat) :
    ∃ t, run k s = .next t ∧ Hanging b t := by
  induction k generalizing s with
  | zero => exact ⟨s, rfl, h⟩
  | succ k ih =>
    obtain ⟨t, hstep, ht⟩ := h.step hb
    obtain ⟨u, hrun, hu⟩ := ih ht
    exact ⟨u, (run_succ k hstep).trans hrun, hu⟩

/-! ### The other commands respond -/

/-- The port holds a command other than DECODE that needs at most `n` more turns of the block: ENCODE one for its start, one for
each byte and one for the response (log entry 14). -/
def NeedsTurns (n : Nat) (s : State) : Prop :=
  (∃ w, s.port = .issued w ∧ opField w ≠ 0x10 ∧ 3 + 2 * (4 + (plen s.txLen).toNat) ≤ n) ∨
    ∃ todo total, s.port = .encoding todo total ∧ todo.length + 1 ≤ n

theorem NeedsTurns.busy {n : Nat} {s : State} (h : NeedsTurns n s) : s.port.accepts = false := by
  obtain ⟨w, hp, -⟩ | ⟨todo, total, hp, -⟩ := h <;> rw [hp] <;> rfl

theorem NeedsTurns.pos {n : Nat} {s : State} (h : NeedsTurns n s) : 0 < n := by
  obtain ⟨w, -, -, hn⟩ | ⟨todo, total, -, hn⟩ := h <;> omega

/-- What it needs depends on the port and TX_LEN only. -/
theorem NeedsTurns.congr {n : Nat} {s t : State} (h : NeedsTurns n s) (hport : t.port = s.port) (hlen : t.txLen = s.txLen) :
    NeedsTurns n t := by
  rwa [NeedsTurns, hport, hlen]

/-- A command other than DECODE responds in its own step, or is ENCODE, which has its bytes to write (41_encoder.md R152). -/
theorem exec_responds_or_encodes {i : Instr} {s t : State} (hcmd : i.isCommand = true) (hdecode : i ≠ .decode)
    (h : exec i s = .next t) :
    (∃ r, t.port = .responded r) ∨
      ∃ todo total, t.port = .encoding todo total ∧ todo.length ≤ 1 + 2 * (4 + (plen s.txLen).toNat) := by
  cases i with
  | txSetType | txCsum | flush | rdStatus | rdTxstat | txRdType | txRdLen | txRdCsum | txVerify
  | rxRdType | rxRdLen | rxRdCsum | rxVerify => cases h; exact .inl ⟨_, rfl⟩
  | txSetLen | txWrite | txRdByte | rxRdByte => cases h; split <;> exact .inl ⟨_, rfl⟩
  | encode =>
    cases h
    have hlen : s.ensureTxCsum.txLen = s.txLen := by rw [State.ensureTxCsum_eq]
    exact .inr ⟨_, _, rfl, hlen ▸ s.ensureTxCsum.txWire_length_le⟩
  | decode => exact absurd rfl hdecode
  | wireStart | wireEsc7E | wireEsc7D | wireEsc11 | wireEsc13 | wireEscOther | wireData => cases hcmd

/-- A turn of the block makes the response, or one turn less is needed. -/
theorem NeedsTurns.turn {n : Nat} {s t : State} (h : NeedsTurns (n + 1) s) (hturn : blockStep s = .next t) :
    (∃ r, t.port = .responded r) ∨ NeedsTurns n t := by
  obtain ⟨w, hp, hop, hn⟩ | ⟨todo, total, hp, hn⟩ := h
  · cases hd : decodeCmd w with
    | reject why =>
      cases (blockStep_of_rejected hp hd).symm.trans hturn
      exact .inl ⟨_, rfl⟩
    | instr i =>
      have hdecode : i ≠ .decode := by
        rintro rfl
        exact hop (opField_of_decode hd)
      have hexec := (blockStep_of_issued hp hd).symm.trans hturn
      obtain hresp | ⟨todo, total, hport, hle⟩ := exec_responds_or_encodes (isCommand_of_decodeCmd hd) hdecode hexec
      · exact .inl hresp
      · exact .inr (.inr ⟨todo, total, hport, by omega⟩)
  · cases (blockStep_of_encoding hp).symm.trans hturn
    cases todo with
    | nil => exact .inl ⟨_, rfl⟩
    | cons b rest => exact .inr (.inr ⟨rest, total, rfl, Nat.le_of_succ_le_succ hn⟩)

/-- The first move of a schedule, where it can be made, brings the response, or the rest of it holds the turns that are
still needed. -/
theorem NeedsTurns.move {e : Machine.Event} {rest : List Event} {s t : State} (h : NeedsTurns (turns (e :: rest)) s)
    (hmove : perform e s = .next t) : (∃ r, t.port = .responded r) ∨ NeedsTurns (turns rest) t ∧ t.sched = s.sched := by
  by_cases hturn : e = .turn
  · subst hturn
    have hcount : turns (.turn :: rest) = turns rest + 1 := List.count_cons_self
    rw [hcount] at h
    obtain ⟨-, -, -, hsched, -⟩ := blockStep_sameRest hmove
    exact (h.turn hmove).imp_right (⟨·, hsched⟩)
  · have hcount : turns (e :: rest) = turns rest := List.count_cons_of_ne hturn
    rw [hcount] at h
    obtain ⟨hport, hlen, hsched⟩ := perform_busy h.busy hturn hmove
    exact .inr ⟨h.congr hport hlen, hsched⟩

/-- A schedule with the turns it needs and no further command leads to the response. -/
theorem NeedsTurns.responds {s : State} (h : NeedsTurns (turns s.sched) s) (hcmd : ∀ c, Event.command c ∉ s.sched) :
    ∃ k t r, k ≤ s.sched.length ∧ run k s = .next t ∧ t.port = .responded r := by
  induction hsched : s.sched generalizing s with
  | nil =>
    rw [hsched] at h
    exact absurd h.pos (by simp [turns])
  | cons e rest ih =>
    rw [hsched] at h hcmd
    obtain ⟨t, hmove⟩ :=
      perform_of_no_command (fun w hw => hcmd w (hw ▸ List.mem_cons_self)) { s with sched := rest }
    have hstep := (step_of_busy h.busy (State.nextMove_of_sched hsched)).trans hmove
    obtain ⟨r, hresp⟩ | ⟨hneeds, hrest⟩ := NeedsTurns.move (s := { s with sched := rest }) h hmove
    · exact ⟨1, t, r, Nat.succ_pos _, run_succ 0 hstep, hresp⟩
    · obtain ⟨k, u, r, hk, hrun, hresp⟩ :=
        ih (by rwa [hrest]) (by rw [hrest]; exact fun c hc => hcmd c (List.mem_cons_of_mem e hc)) hrest
      exact ⟨k + 1, u, r, Nat.succ_le_succ hk, (run_succ k hstep).trans hrun, hresp⟩

/-- Settles O29: DECODE's loop stays while it can read, hunting states under endless arrivals lead to one another, and every turn
of the block brings any other command nearer to its response. -/
theorem decodeDoesNotEndEarly : Obligations.DecodeDoesNotEndEarly := by
  refine ⟨fun s t => step_keeps_decoding, fun s u => step_decoding_turn,
    fun s b hp hs hd hno hb hnil hlater k => ?_, fun s w hp hop hlen hcmd hturns => ?_⟩
  · obtain ⟨t, hrun, ht⟩ := Hanging.run ⟨hp, hs, hd, hno, hlater, .inl hnil⟩ hb k
    exact ⟨t, hrun, ht.port, ht.stat⟩
  · exact NeedsTurns.responds (.inl ⟨w, hp, hop, by omega⟩) hcmd

end Sys2Proof.Machine
